-- ==== Sys2Proof/Word.lean ====
section
/-! DEFINITION. The plain numbers of the PR16: bytes, credentials, and the numbers of doors, rooms,
inputs, readers and debounce banks (spec/00_scope.md, Shared quantities). -/

namespace Sys2Proof

/-- One byte of a frame. -/
abbrev Byte := BitVec 8

/-- A credential number as a badge delivers it, 0 to 4,294,967,295. Credential 0 is held by no table
(chapter 3.1). -/
abbrev Credential := BitVec 32

/-- A door channel, 0 to 15. -/
abbrev DoorNo := Fin 16

/-- A room, 0 to 15. -/
abbrev RoomNo := Fin 16

/-- A conditioned input, 0 to 31: input 2k is the door position of channel k, input 2k + 1 its
request-to-exit. -/
abbrev InputNo := Fin 32

/-- A reader of the loop. Reader address `a` (1 to 31) is held as `a - 1`, so that address 0
(no reader) is not one. -/
abbrev ReaderNo := Fin 31

/-- A debounce bank, 0 to 3. -/
abbrev BankNo := Fin 4

end Sys2Proof
end

