-- ==== Sys2Proof/Config.lean ====
section
/-! DEFINITION. The sizes the manual fixes for the part (spec/00_scope.md, Shared quantities), its
fixed intervals, and the one value the manual leaves open. -/

namespace Sys2Proof.Config

/-- Permit slots, numbered 0 to 2047 (R1). -/
def permitSlots : Nat := 2048

/-- Non-FREE slots one credential may hold (R3). -/
def slotsPerCredential : Nat := 8

/-- Places of the exact revocation list (R109). -/
def exactCapacity : Nat := 256

/-- Days of the holiday list (R21). -/
def holidayCapacity : Nat := 32

/-- Entries of the occupancy pool (R92). -/
def poolSize : Nat := 128

/-- Open pairing records (R70). -/
def pairingCapacity : Nat := 8

/-- Contractors in one pairing record (R70). -/
def groupContractors : Nat := 4

/-- References in one door's provisional list (R136). -/
def referencesPerDoor : Nat := 8

/-- Records the queue holds (R183). -/
def queueCapacity : Nat := 1024

/-- Where the lost count stops (R184). -/
def lostMax : Nat := 65535

/-- Where a daily entry count stops (R6). -/
def countMax : Nat := 15

/-- The reader reply window in milliseconds (R159). -/
def replyWindow : Nat := 15

/-- The time from one scanner pass to the next in milliseconds (R149). -/
def scanPeriod : Nat := 20

/-- Milliseconds in one second of the part's timebase. -/
def second : Nat := 1000

/-- FREE VALUE (DESIGN CHOICE, notes/assumptions/4.md): the tamper report read from a reader's status
byte that is neither 0 nor 1. R179 gives a report for the bytes 0 and 1 only. It has no body, so
nothing can be proved of it. -/
opaque tamperReport : Byte → Bool

/-- FREE VALUE (DESIGN CHOICE, notes/assumptions/15.md): whether an address that is given its assignment during a
poll round waits for the next round, as R121 says, or is polled in the round in progress, as R157 says. It has no
body, so nothing can be proved of it. -/
opaque assignmentsWaitForRound : Bool

/-- The fields of responses that may be absent and whose mark of absence the manual does not give. -/
inductive OptionalField where
  | station
  | grantedStamp
  | confirmedStamp
  | entitledUntil
  | lastValue
  | assignment
  | lastPresentation
  | recordStamp
  | recordDoor
  | recordRoom
  | recordReader
  | recordCredential
  | recordSlot
  | recordWorkOrder
  | recordReason
  | recordDetail
  deriving DecidableEq, Repr

/-- FREE VALUE (DESIGN CHOICE, notes/assumptions/31.md): the bytes that mark an optional field of a response as
absent. R177 gives such marks for start and end minutes and for an exit reader alone. -/
opaque absentMark : OptionalField → List Byte

/-- FREE VALUE (DESIGN CHOICE, notes/assumptions/31.md): how many bytes carry the whole seconds since a reader's last
presentation (R165), a number whose range the manual does not give. -/
opaque elapsedWidth : Nat

end Sys2Proof.Config
end

