-- ==== Sys2Proof/Syntax.lean ====
section
/-! DEFINITION. The commands of the PR16: one constructor for each row of spec/opcode_table.json.
The part takes them from its trunk link, its reader loop, its pins and its own timers. -/

namespace Sys2Proof

/-- The controller's address on the trunk as the straps gave it (R167). -/
inductive Station where
  /-- A station number, 1 to 250. -/
  | address (n : Byte)
  /-- Straps of 0 or 251 to 255: only broadcast frames are taken. -/
  | broadcastOnly
  deriving DecidableEq, Repr

/-- One request frame that passed the checks of R168, as the row of its kind receives it: whether its
station byte was 255, and its payload. -/
structure Req where
  /-- The station byte is 255; otherwise the frame is addressed to this controller. -/
  broadcast : Bool
  /-- The payload bytes, in the order of the frame. -/
  payload : List Byte
  deriving DecidableEq, Repr

/-- The request kinds of the kind-code table (R178). -/
inductive RequestKind where
  | readStatus
  | readSettings
  | setController
  | start
  | stop
  | reset
  | setTime
  | minuteMark
  | readTime
  | openPermitWindow
  | permitRecord
  | readPermit
  | suspendPermit
  | resumePermit
  | writeSchedule
  | readSchedule
  | addHoliday
  | removeHoliday
  | clearHolidays
  | readHolidays
  | revoke
  | reinstate
  | clearFilter
  | checkCredential
  | readRevocations
  | setRoom
  | readRoom
  | clearOccupant
  | clearRoom
  | setDoor
  | setDoorMode
  | releaseDoor
  | silence
  | readDoor
  | setInput
  | readInputs
  | readReaders
  | collect
  deriving DecidableEq, Repr

/-- What an input's contact shows at the pin. -/
inductive Contact where
  | closed
  | opened
  deriving DecidableEq, Repr

/-- The commands, one for each row of the table of operations and events. -/
inductive Instr where
  /-- POWER_ON: supply is applied. `straps` are the station straps, and bit i of `closed` says that the
  contact of input i is closed, as the pins then show. -/
  | powerOn (straps : Byte) (closed : BitVec 32)
  /-- RESET_PIN: the pin has been held for 100 ms; `straps` are the station straps then. -/
  | resetPin (straps : Byte)
  /-- RESET_PIN_RELEASE. -/
  | resetPinRelease
  /-- SECOND_TICK. -/
  | secondTick
  /-- FRAME_DISCARDED: a run of characters between two idle periods of the trunk, which the checks of R168
  discard. -/
  | frameDiscarded (frame : List Byte)
  /-- UNKNOWN_KIND: a frame that R168 takes, whose kind byte is not in the kind-code table. -/
  | unknownKind (kind : Byte) (req : Req)
  /-- RESPONSE_SENT: the last byte of a response leaves the line; `straps` are the station straps then,
  read only when a reset follows. -/
  | responseSent (straps : Byte)
  /-- SILENCE_TIMEOUT. -/
  | silenceTimeout
  | readStatus (req : Req)
  | readSettings (req : Req)
  | setController (req : Req)
  | start (req : Req)
  | stop (req : Req)
  | reset (req : Req)
  | setTime (req : Req)
  | minuteMark (req : Req)
  | readTime (req : Req)
  | openPermitWindow (req : Req)
  | permitRecord (req : Req)
  | readPermit (req : Req)
  | suspendPermit (req : Req)
  | resumePermit (req : Req)
  | writeSchedule (req : Req)
  | readSchedule (req : Req)
  | addHoliday (req : Req)
  | removeHoliday (req : Req)
  | clearHolidays (req : Req)
  | readHolidays (req : Req)
  | revoke (req : Req)
  | reinstate (req : Req)
  | clearFilter (req : Req)
  | checkCredential (req : Req)
  | readRevocations (req : Req)
  | setRoom (req : Req)
  | readRoom (req : Req)
  | clearOccupant (req : Req)
  | clearRoom (req : Req)
  | setDoor (req : Req)
  | setDoorMode (req : Req)
  | releaseDoor (req : Req)
  | silence (req : Req)
  | readDoor (req : Req)
  | setInput (req : Req)
  | readInputs (req : Req)
  | readReaders (req : Req)
  | collect (req : Req)
  /-- REPLY_RECEIVED: the bytes of a reply that 2 ms of idle line ended. -/
  | replyReceived (reply : List Byte)
  /-- REPLY_WINDOW_EXPIRY. -/
  | replyWindowExpiry
  /-- QUIET_INTERVAL_EXPIRY. -/
  | quietIntervalExpiry
  /-- PAIRING_DEADLINE_EXPIRY of the pairing record at a door. -/
  | pairingDeadlineExpiry (door : DoorNo)
  /-- RELEASE_TIMER_EXPIRY of a door. -/
  | releaseTimerExpiry (door : DoorNo)
  /-- EGRESS_TIMER_EXPIRY of a door. -/
  | egressTimerExpiry (door : DoorNo)
  /-- OPEN_ALLOWANCE_EXPIRY of a door. -/
  | openAllowanceExpiry (door : DoorNo)
  /-- CONTACT_CHANGE: the contact at the pin of an input now stands as given. -/
  | contactChange (input : InputNo) (contact : Contact)
  /-- STEADY_TIMER_EXPIRY of an input. -/
  | steadyTimerExpiry (input : InputNo)
  /-- SCANNER_PASS: the values measured, one for each input; those of plain inputs are not read. -/
  | scannerPass (values : Vector (BitVec 10) 32)
  /-- RESPONSE_START. -/
  | responseStart
  deriving DecidableEq, Repr

end Sys2Proof
end

