-- ==== Sys2Proof/Decode.lean ====
section
/-! DEFINITION. The wire formats of chapter 10.5: the request kinds and their payload lengths (R178), the
CRC (R180), the trunk frames (R168, R177) and the reader loop frames (R179). The rows of
spec/opcode_table.json give no bits, so `decodeTableWord` answers none. -/

namespace Sys2Proof

/-! ## Request kinds (R178) -/

/-- The kind code of a request (R178). -/
def RequestKind.code : RequestKind → Byte
  | .readStatus => 0x01
  | .readSettings => 0x02
  | .setController => 0x03
  | .start => 0x04
  | .stop => 0x05
  | .reset => 0x06
  | .setTime => 0x10
  | .minuteMark => 0x11
  | .readTime => 0x12
  | .openPermitWindow => 0x20
  | .permitRecord => 0x21
  | .readPermit => 0x22
  | .suspendPermit => 0x23
  | .resumePermit => 0x24
  | .writeSchedule => 0x25
  | .readSchedule => 0x26
  | .addHoliday => 0x27
  | .removeHoliday => 0x28
  | .clearHolidays => 0x29
  | .readHolidays => 0x2A
  | .revoke => 0x30
  | .reinstate => 0x31
  | .clearFilter => 0x32
  | .checkCredential => 0x33
  | .readRevocations => 0x34
  | .setRoom => 0x40
  | .readRoom => 0x41
  | .clearOccupant => 0x42
  | .clearRoom => 0x43
  | .setDoor => 0x50
  | .setDoorMode => 0x51
  | .releaseDoor => 0x52
  | .silence => 0x53
  | .readDoor => 0x54
  | .setInput => 0x60
  | .readInputs => 0x61
  | .readReaders => 0x62
  | .collect => 0x70

/-- The kinds of the table, in the order of their codes (R178). -/
def requestKinds : List RequestKind :=
  [.readStatus, .readSettings, .setController, .start, .stop,
   .reset, .setTime, .minuteMark, .readTime, .openPermitWindow,
   .permitRecord, .readPermit, .suspendPermit, .resumePermit, .writeSchedule,
   .readSchedule, .addHoliday, .removeHoliday, .clearHolidays, .readHolidays,
   .revoke, .reinstate, .clearFilter, .checkCredential, .readRevocations,
   .setRoom, .readRoom, .clearOccupant, .clearRoom, .setDoor,
   .setDoorMode, .releaseDoor, .silence, .readDoor, .setInput,
   .readInputs, .readReaders, .collect]

/-- The kind that a code names, none for a code that is not in the table (R169 step 3). -/
def kindOfCode (code : Byte) : Option RequestKind :=
  requestKinds.find? fun k => k.code == code

/-- The row of the operations table that a taken request of a kind is. -/
def RequestKind.command : RequestKind → Req → Instr
  | .readStatus, r => .readStatus r
  | .readSettings, r => .readSettings r
  | .setController, r => .setController r
  | .start, r => .start r
  | .stop, r => .stop r
  | .reset, r => .reset r
  | .setTime, r => .setTime r
  | .minuteMark, r => .minuteMark r
  | .readTime, r => .readTime r
  | .openPermitWindow, r => .openPermitWindow r
  | .permitRecord, r => .permitRecord r
  | .readPermit, r => .readPermit r
  | .suspendPermit, r => .suspendPermit r
  | .resumePermit, r => .resumePermit r
  | .writeSchedule, r => .writeSchedule r
  | .readSchedule, r => .readSchedule r
  | .addHoliday, r => .addHoliday r
  | .removeHoliday, r => .removeHoliday r
  | .clearHolidays, r => .clearHolidays r
  | .readHolidays, r => .readHolidays r
  | .revoke, r => .revoke r
  | .reinstate, r => .reinstate r
  | .clearFilter, r => .clearFilter r
  | .checkCredential, r => .checkCredential r
  | .readRevocations, r => .readRevocations r
  | .setRoom, r => .setRoom r
  | .readRoom, r => .readRoom r
  | .clearOccupant, r => .clearOccupant r
  | .clearRoom, r => .clearRoom r
  | .setDoor, r => .setDoor r
  | .setDoorMode, r => .setDoorMode r
  | .releaseDoor, r => .releaseDoor r
  | .silence, r => .silence r
  | .readDoor, r => .readDoor r
  | .setInput, r => .setInput r
  | .readInputs, r => .readInputs r
  | .readReaders, r => .readReaders r
  | .collect, r => .collect r

/-- The request that a command is, none for a command that is no request of the kind-code table. -/
def Instr.request : Instr → Option (RequestKind × Req)
  | .powerOn _ _ => none
  | .resetPin _ => none
  | .resetPinRelease => none
  | .secondTick => none
  | .frameDiscarded _ => none
  | .unknownKind _ _ => none
  | .responseSent _ => none
  | .silenceTimeout => none
  | .readStatus r => some (.readStatus, r)
  | .readSettings r => some (.readSettings, r)
  | .setController r => some (.setController, r)
  | .start r => some (.start, r)
  | .stop r => some (.stop, r)
  | .reset r => some (.reset, r)
  | .setTime r => some (.setTime, r)
  | .minuteMark r => some (.minuteMark, r)
  | .readTime r => some (.readTime, r)
  | .openPermitWindow r => some (.openPermitWindow, r)
  | .permitRecord r => some (.permitRecord, r)
  | .readPermit r => some (.readPermit, r)
  | .suspendPermit r => some (.suspendPermit, r)
  | .resumePermit r => some (.resumePermit, r)
  | .writeSchedule r => some (.writeSchedule, r)
  | .readSchedule r => some (.readSchedule, r)
  | .addHoliday r => some (.addHoliday, r)
  | .removeHoliday r => some (.removeHoliday, r)
  | .clearHolidays r => some (.clearHolidays, r)
  | .readHolidays r => some (.readHolidays, r)
  | .revoke r => some (.revoke, r)
  | .reinstate r => some (.reinstate, r)
  | .clearFilter r => some (.clearFilter, r)
  | .checkCredential r => some (.checkCredential, r)
  | .readRevocations r => some (.readRevocations, r)
  | .setRoom r => some (.setRoom, r)
  | .readRoom r => some (.readRoom, r)
  | .clearOccupant r => some (.clearOccupant, r)
  | .clearRoom r => some (.clearRoom, r)
  | .setDoor r => some (.setDoor, r)
  | .setDoorMode r => some (.setDoorMode, r)
  | .releaseDoor r => some (.releaseDoor, r)
  | .silence r => some (.silence, r)
  | .readDoor r => some (.readDoor, r)
  | .setInput r => some (.setInput, r)
  | .readInputs r => some (.readInputs, r)
  | .readReaders r => some (.readReaders, r)
  | .collect r => some (.collect, r)
  | .replyReceived _ => none
  | .replyWindowExpiry => none
  | .quietIntervalExpiry => none
  | .pairingDeadlineExpiry _ => none
  | .releaseTimerExpiry _ => none
  | .egressTimerExpiry _ => none
  | .openAllowanceExpiry _ => none
  | .contactChange _ _ => none
  | .steadyTimerExpiry _ => none
  | .scannerPass _ => none
  | .responseStart => none

/-- The payload lengths of PERMIT RECORD: 1 byte with the EMPTY marker, 24 with a record; a first byte of
neither kind may come with either length (R178, R12). -/
def permitLengthAllowed : List Byte → Bool
  | [] => false
  | b :: rest =>
    if b = 0 then rest.length == 0
    else if b = 1 then rest.length == 23
    else rest.length == 0 || rest.length == 23

/-- The payload length of WRITE SCHEDULE: two bytes and four for each window counted (R178). -/
def scheduleLengthAllowed : List Byte → Bool
  | _ :: count :: rest => rest.length == 4 * count.toNat
  | _ => false

/-- Whether the kind-code table allows a payload of this length for the kind (R169 step 4, R178). -/
def RequestKind.allows : RequestKind → List Byte → Bool
  | .permitRecord, p => permitLengthAllowed p
  | .writeSchedule, p => scheduleLengthAllowed p
  | .readStatus, p => p.length == 0
  | .readSettings, p => p.length == 1
  | .setController, p => p.length == 53
  | .start, p => p.length == 0
  | .stop, p => p.length == 0
  | .reset, p => p.length == 0
  | .setTime, p => p.length == 6
  | .minuteMark, p => p.length == 0
  | .readTime, p => p.length == 0
  | .openPermitWindow, p => p.length == 4
  | .readPermit, p => p.length == 2
  | .suspendPermit, p => p.length == 2
  | .resumePermit, p => p.length == 2
  | .readSchedule, p => p.length == 1
  | .addHoliday, p => p.length == 3
  | .removeHoliday, p => p.length == 3
  | .clearHolidays, p => p.length == 0
  | .readHolidays, p => p.length == 0
  | .revoke, p => p.length == 4
  | .reinstate, p => p.length == 4
  | .clearFilter, p => p.length == 0
  | .checkCredential, p => p.length == 4
  | .readRevocations, p => p.length == 2
  | .setRoom, p => p.length == 8
  | .readRoom, p => p.length == 2
  | .clearOccupant, p => p.length == 4
  | .clearRoom, p => p.length == 1
  | .setDoor, p => p.length == 15
  | .setDoorMode, p => p.length == 2
  | .releaseDoor, p => p.length == 1
  | .silence, p => p.length == 1
  | .readDoor, p => p.length == 1
  | .setInput, p => p.length == 3
  | .readInputs, p => p.length == 2
  | .readReaders, p => p.length == 2
  | .collect, p => p.length == 1

/-- Whether a broadcast of the kind is carried out (chapter 10.3, requests by run state and by
broadcast; R10, R112, R123). -/
def RequestKind.carriedWhenBroadcast : RequestKind → Bool
  | .readStatus => false
  | .readSettings => false
  | .setController => false
  | .start => true
  | .stop => true
  | .reset => false
  | .setTime => true
  | .minuteMark => true
  | .readTime => false
  | .openPermitWindow => false
  | .permitRecord => false
  | .readPermit => false
  | .suspendPermit => false
  | .resumePermit => false
  | .writeSchedule => true
  | .readSchedule => false
  | .addHoliday => true
  | .removeHoliday => true
  | .clearHolidays => true
  | .readHolidays => false
  | .revoke => true
  | .reinstate => true
  | .clearFilter => true
  | .checkCredential => false
  | .readRevocations => false
  | .setRoom => false
  | .readRoom => false
  | .clearOccupant => false
  | .clearRoom => false
  | .setDoor => false
  | .setDoorMode => true
  | .releaseDoor => false
  | .silence => false
  | .readDoor => false
  | .setInput => false
  | .readInputs => false
  | .readReaders => false
  | .collect => false

/-! ## The CRC (R180) -/

/-- One bit taken into the CRC register (R180). -/
def crcBit (register : BitVec 16) (bit : Bool) : BitVec 16 :=
  if register.msb != bit then (register <<< 1) ^^^ 0x1021#16 else register <<< 1

/-- One byte taken into the CRC register, most significant bit first (R180). -/
def crcByte (register : BitVec 16) (b : Byte) : BitVec 16 :=
  [7, 6, 5, 4, 3, 2, 1, 0].foldl (fun r i => crcBit r (b.getLsbD i)) register

/-- The CRC-16 of a run of bytes, from FFFFh (R180). -/
def crc16 (bytes : List Byte) : BitVec 16 :=
  bytes.foldl crcByte 0xFFFF#16

/-- A number of two bytes, most significant first (R177). -/
def bytesOf16 (v : BitVec 16) : List Byte :=
  [v.extractLsb' 8 8, v.extractLsb' 0 8]

/-- A body closed by its CRC, most significant byte first (R180). -/
def withCrc (body : List Byte) : List Byte :=
  body ++ bytesOf16 (crc16 body)

/-- Whether the last two bytes are the CRC of the bytes before them (R180). -/
def crcChecks (bytes : List Byte) : Bool :=
  bytes.drop (bytes.length - 2) == bytesOf16 (crc16 (bytes.take (bytes.length - 2)))

/-! ## Trunk frames (R168, R177) -/

/-- The station byte of a broadcast frame (R168). -/
def broadcastStation : Byte := 255

/-- Whether a frame's station byte is one that this controller takes (R167, R168). -/
def stationTakes (station : Station) (b : Byte) : Bool :=
  b == broadcastStation ||
    match station with
    | .address n => b == n
    | .broadcastOnly => false

/-- Whether a run of characters is a frame that the trunk interface takes: at least 5 bytes, a matching
length byte, a good CRC, and this station's number or 255 (R168). -/
def frameTaken (station : Station) (bytes : List Byte) : Bool :=
  decide (5 ≤ bytes.length) && (bytes.getD 0 0).toNat == bytes.length && crcChecks bytes &&
    stationTakes station (bytes.getD 1 0)

/-- The request that a frame carries: its station and its payload (R169, R177). -/
def reqOf (bytes : List Byte) : Req :=
  ⟨bytes.getD 1 0 == broadcastStation, (bytes.drop 3).take (bytes.length - 5)⟩

/-- The kind byte of a frame (R177). -/
def kindByteOf (bytes : List Byte) : Byte := bytes.getD 2 0

/-- The row that a taken frame is: that of its kind, or UNKNOWN_KIND (R169 step 3, R177). -/
def requestOf (bytes : List Byte) : Instr :=
  match kindOfCode (kindByteOf bytes) with
  | some k => k.command (reqOf bytes)
  | none => .unknownKind (kindByteOf bytes) (reqOf bytes)

/-- The command that a frame on the trunk is: the row of its kind when it is taken, FRAME_DISCARDED
otherwise (R168, R169). -/
def decodeFrame (station : Station) (bytes : List Byte) : Instr :=
  if frameTaken station bytes then requestOf bytes else .frameDiscarded bytes

/-- A request frame to a station or to all (R177). -/
def requestFrame (station : Byte) (code : Byte) (payload : List Byte) : List Byte :=
  withCrc (BitVec.ofNat 8 (payload.length + 5) :: station :: code :: payload)

/-- The station byte a request travels with (R177). -/
def stationByte (station : Byte) (r : Req) : Byte :=
  if r.broadcast then broadcastStation else station

/-- The frame that a head-end sends to the station `n` for a request of a kind. -/
def encodeRequest (n : Byte) (k : RequestKind) (r : Req) : List Byte :=
  requestFrame (stationByte n r) k.code r.payload

/-- The kind byte of a response: the request's kind plus 80h, taken modulo 100h (R177). -/
def responseKind (code : Byte) : Byte := code + 0x80

/-- A response frame of a station: the request's kind code, the result code and the payload (R177). -/
def responseFrame (station code result : Byte) (payload : List Byte) : List Byte :=
  withCrc (BitVec.ofNat 8 (payload.length + 6) :: station :: responseKind code :: result :: payload)

/-! ## Reader loop frames (R179) -/

/-- The poll frame for reader address `a`, with the indication's number and the reason's position
(R179). -/
def pollFrame (a : ReaderNo) (indication reason : Nat) : List Byte :=
  withCrc [6, BitVec.ofNat 8 (a.val + 1), BitVec.ofNat 8 indication, BitVec.ofNat 8 reason]

/-- A credential as the four bytes of a frame, most significant first (R177). -/
def bytesOfCredential (c : Credential) : List Byte :=
  [c.extractLsb' 24 8, c.extractLsb' 16 8, c.extractLsb' 8 8, c.extractLsb' 0 8]

/-- Four bytes read as a credential, most significant first (R177). -/
def credentialOfBytes (b3 b2 b1 b0 : Byte) : Credential :=
  b3 ++ b2 ++ b1 ++ b0

/-- The tamper report of a good reply: none when the reply has no status byte, in which case the flag is
left as it was (R179). A status byte other than 0 and 1 is a free value. -/
def replyTamper (body : List Byte) : Option Bool :=
  match body with
  | [] => none
  | b :: _ =>
    if b = 0 then some false else if b = 1 then some true else some (Config.tamperReport b)

/-- The credential of a good reply, none with fewer than four bytes after the status byte (R179). -/
def replyCredential (body : List Byte) : Option Credential :=
  match body with
  | _ :: b3 :: b2 :: b1 :: b0 :: _ => some (credentialOfBytes b3 b2 b1 b0)
  | _ => none

/-- How a poll that was answered is judged (R159). -/
inductive ReplyKind where
  /-- Fewer than 4 bytes. -/
  | runt
  /-- A wrong length byte, CRC or address. -/
  | checkFailure
  /-- A good reply, with its tamper report and its credential, where it carries them. -/
  | good (tamper : Option Bool) (credential : Option Credential)
  deriving DecidableEq, Repr

/-- Judge the reply to a poll of reader `a` (R159, R179). -/
def judgeReply (a : ReaderNo) (bytes : List Byte) : ReplyKind :=
  if bytes.length < 4 then .runt
  else if (bytes.getD 0 0).toNat == bytes.length && crcChecks bytes &&
      (bytes.getD 1 0).toNat == a.val + 1 then
    let body := (bytes.drop 2).take (bytes.length - 4)
    .good (replyTamper body) (replyCredential body)
  else .checkFailure

/-- The reply frame of a reader that reports its tamper state and perhaps a credential (R179). -/
def replyFrame (a : ReaderNo) (tamper : Bool) (credential : Option Credential) : List Byte :=
  let badge := match credential with
    | some c => bytesOfCredential c
    | none => []
  withCrc (BitVec.ofNat 8 (badge.length + 5) :: BitVec.ofNat 8 (a.val + 1) ::
    (if tamper then 1 else 0) :: badge)

/-! ## The table's bits -/

/-- The rows of spec/opcode_table.json give no bits: no word spells a command. -/
def decodeTableWord (_nbits _w : Nat) : Option Instr := none

end Sys2Proof
end

