-- ==== Sys2Proof/Machine/State.lean ====
section
/-! DEFINITION. The state of the PR16, block by block, as the chapters give it, and the state right after
reset. Every field is plain data. Times of the part's elapsed-time base are whole milliseconds; a
running timer is held as the moment at which it runs out. -/

namespace Sys2Proof.Machine

/-! ## Calendar clock (chapter 2) -/

/-- A date: year of the century, month and day (R25). -/
structure Date where
  year : Nat
  month : Nat
  day : Nat
  deriving DecidableEq, Repr

/-- The clock state (R25). -/
inductive ClockState where
  | set
  | unset
  deriving DecidableEq, Repr

/-- The calendar clock, and a reading of it (R25, R29). -/
structure Clock where
  state : ClockState
  date : Date
  hour : Nat
  minute : Nat
  second : Nat
  deriving DecidableEq, Repr

/-- A stamp: a date and time down to the second (R29). -/
structure Stamp where
  date : Date
  hour : Nat
  minute : Nat
  second : Nat
  deriving DecidableEq, Repr

/-! ## Permit tables (chapter 1) -/

/-- What the holder of a permit is in the room (chapter 1.1). -/
inductive Role where
  | contractor
  | escort
  deriving DecidableEq, Repr

/-- Whether a permit admits on the days of the holiday list (chapter 1.1). -/
inductive HolidayRule where
  | honour
  | ignore
  deriving DecidableEq, Repr

/-- A permit record as it is stored (chapter 1.1, R2). Room n is in the room set when bit n is set; the
schedule is a number from 0 to 63, or 255 for "always". -/
structure PermitRecord where
  credential : Credential
  role : Role
  workOrder : Nat
  rooms : BitVec 16
  firstDay : Nat
  lastDay : Nat
  startMinute : Option Nat
  endMinute : Option Nat
  schedule : Nat
  holidayRule : HolidayRule
  allowance : Nat
  deriving DecidableEq, Repr

/-- The state of a slot that holds a permit (R1). A FREE slot is one the table does not list. -/
inductive SlotState where
  | active
  | suspended
  deriving DecidableEq, Repr

/-- A non-FREE permit slot (R1). -/
structure PermitSlot where
  state : SlotState
  permit : PermitRecord
  count : Nat
  deriving DecidableEq, Repr

/-- A weekly window: the minute of the week at which it opens, and its length (chapter 1.5). -/
structure WeeklyWindow where
  start : Nat
  length : Nat
  deriving DecidableEq, Repr

/-- An OPEN permit write window: the write position and the last slot (chapter 1.3). -/
structure PermitWindow where
  position : Nat
  last : Nat
  deriving DecidableEq, Repr

/-! ## Pairing table (chapter 4) -/

/-- A member of a pairing record, with the slot and work order it arrived under (chapter 4.2). -/
structure Member where
  credential : Credential
  slot : Nat
  workOrder : Nat
  deriving DecidableEq, Repr

/-- An open pairing record (chapter 4.2). -/
structure PairingRecord where
  escort : Option Member
  contractors : List Member
  opened : Nat
  deadline : Nat
  deriving DecidableEq, Repr

/-! ## Rooms and occupancy (chapter 5) -/

/-- The entry policy of a room (R60). -/
inductive EntryPolicy where
  | single
  | escorted
  | escortPresent
  deriving DecidableEq, Repr

/-- The settings of a room (chapter 5.1). -/
structure RoomSettings where
  inUse : Bool
  cap : Nat
  policy : EntryPolicy
  passback : Bool
  loneBarred : Bool
  onlineOnly : Bool
  grace : Nat
  deriving DecidableEq, Repr

/-- The state of an occupancy entry (R94). -/
inductive EntryState where
  | provisional
  | confirmed
  deriving DecidableEq, Repr

/-- An occupancy entry (chapter 5.2). Its room is the one whose list holds it; while it is PROVISIONAL its
reference stands in its entry door's provisional list as its credential. -/
structure Entry where
  credential : Credential
  role : Role
  slot : Nat
  workOrder : Nat
  door : DoorNo
  state : EntryState
  granted : Option Nat
  confirmed : Option Nat
  entitled : Option Nat
  overstay : Bool
  revokedInside : Bool
  deriving DecidableEq, Repr

/-- The supervision state of a room (R86). -/
inductive Supervision where
  | clear
  | unescorted
  deriving DecidableEq, Repr

/-- A room: its settings, its supervision state and its entries, oldest first (R89, R92). -/
structure Room where
  settings : RoomSettings
  supervision : Supervision
  entries : List Entry
  deriving DecidableEq, Repr

/-! ## Door channels (chapter 7) -/

/-- How a lock is driven (chapter 7.1). -/
inductive LockType where
  | failSecure
  | failSafe
  deriving DecidableEq, Repr

/-- A level of a lock output (chapter 7.1). -/
inductive LockLevel where
  | energised
  | deEnergised
  deriving DecidableEq, Repr

/-- The settings of a door channel (chapter 7.1). An entry reader of none is address 0. -/
structure DoorSettings where
  inService : Bool
  room : RoomNo
  entryReader : Option ReaderNo
  exitReader : Option ReaderNo
  releaseTime : Nat
  openAllowance : Nat
  lockType : LockType
  parkLevel : LockLevel
  relockOnOpen : Bool
  exitReleases : Bool
  rexReleases : Bool
  sounderOnAlarm : Bool
  denyOnFault : Bool
  deriving DecidableEq, Repr

/-- The mode of a door (R122). -/
inductive DoorMode where
  | normal
  | lockdown
  | outOfService
  deriving DecidableEq, Repr

/-- The state of a door (R126). -/
inductive DoorState where
  | idle
  | secure
  | released
  | opened
  | held
  | forced
  deriving DecidableEq, Repr

/-- The state of a sounder (R138). -/
inductive Sounder where
  | off
  | on
  | silenced
  deriving DecidableEq, Repr

/-- A door channel (chapter 7.3). A timer is none while it is stopped, and otherwise the moment at which it
runs out. The provisional list names each waiting entry by its credential, oldest reservation first. -/
structure DoorChannel where
  settings : DoorSettings
  mode : DoorMode
  state : DoorState
  release : Option Nat
  egress : Option Nat
  allowance : Option Nat
  provisional : List Credential
  sounder : Sounder
  lock : LockLevel
  deriving DecidableEq, Repr

/-! ## Input conditioner (chapter 8) -/

/-- How an input is read (chapter 8.1). -/
inductive InputMode where
  | plain
  | supervised
  deriving DecidableEq, Repr

/-- Which contact state of a plain input is ACTIVE (chapter 8.1). -/
inductive Polarity where
  | normallyClosed
  | normallyOpen
  deriving DecidableEq, Repr

/-- The logical level of an input (R145). -/
inductive Level where
  | normal
  | active
  | unclassified
  deriving DecidableEq, Repr

/-- The fault state of an input (R151). -/
inductive FaultState where
  | none
  | short
  | cut
  deriving DecidableEq, Repr

/-- A class of a supervised input (R149). -/
inductive LineClass where
  | normal
  | active
  | short
  | cut
  deriving DecidableEq, Repr

/-- An input: its settings, the contact at its pin, its level and fault state, the steady timer of a plain
input, and the confirm run of a supervised one (chapters 8.1 to 8.4). -/
structure InputLine where
  mode : InputMode
  polarity : Polarity
  contact : Contact
  level : Level
  fault : FaultState
  steady : Option Nat
  lastValue : Option Nat
  accepted : Option LineClass
  candidate : Option LineClass
  run : Nat
  deriving DecidableEq, Repr

/-! ## Reader loop (chapter 9) -/

/-- A denial reason, in the order of the table of chapter 3.8. -/
inductive Reason where
  | notRunning
  | doorOutOfService
  | lockdown
  | doorFault
  | revoked
  | revokedFilter
  | unknownCredential
  | clockUnset
  | suspended
  | wrongRoom
  | notYet
  | expired
  | holiday
  | outsideHours
  | allowanceUsed
  | headendOffline
  | passback
  | roomFull
  | occupancyFull
  | groupFull
  | pairingBusy
  | pairingTimeout
  | pairingCancelled
  | doorBusy
  deriving DecidableEq, Repr

/-- An indication for a reader (R164). -/
inductive Indication where
  | grant
  | deny (reason : Reason)
  | wait
  | exit
  deriving DecidableEq, Repr

/-- What the part knows of a reader (R160). -/
inductive ReaderState where
  | pending
  | online
  | offline
  deriving DecidableEq, Repr

/-- The direction a reader serves (R156). -/
inductive Direction where
  | entry
  | exit
  deriving DecidableEq, Repr

/-- The last presentation of a reader that passed the repeat filter, and its moment (R163). -/
structure LastPresentation where
  credential : Credential
  moment : Nat
  deriving DecidableEq, Repr

/-- A reader entry (chapter 9.1). Its address is its number, and its assignment is derived from the door
settings (R156). -/
structure Reader where
  state : ReaderState
  misses : Nat
  tamper : Bool
  pending : Option Indication
  last : Option LastPresentation
  deriving DecidableEq, Repr

/-- What the loop is doing (R157, R158): nothing, a poll in flight with the indication its frame carried and
the end of its reply window, or a quiet interval. -/
inductive LoopPhase where
  | silent
  | poll (reader : ReaderNo) (indication : Option Indication) (windowEnds : Nat)
  | quiet (ends : Nat)
  deriving DecidableEq, Repr

/-! ## Transaction records (chapter 11) -/

/-- The kinds of records, in the order of their codes (chapter 11.2). -/
inductive RecordKind where
  | entryGranted
  | entryDenied
  | entryPending
  | regrant
  | unassignedReader
  | exit
  | exitUnmatched
  | impliedExit
  | notEntered
  | occupantCleared
  | overstay
  | revokedInside
  | unescorted
  | escortRestored
  | pairingAbandoned
  | revocationOverflow
  | doorForced
  | doorForcedEnd
  | doorHeld
  | doorHeldEnd
  | doorModeChanged
  | remoteRelease
  | inputFault
  | inputFaultEnd
  | readerOffline
  | readerOnline
  | readerTamper
  | readerTamperEnd
  | linkDown
  | linkUp
  | clockSet
  | clockUnset
  | controllerStarted
  | controllerStopped
  | controllerReset
  deriving DecidableEq, Repr

/-- What the block that reports an event fills in (R181); a field left none is absent. -/
structure Report where
  kind : RecordKind
  door : Option DoorNo := none
  room : Option RoomNo := none
  reader : Option ReaderNo := none
  credential : Option Credential := none
  slot : Option Nat := none
  workOrder : Option Nat := none
  reason : Option Reason := none
  detail : Option Nat := none
  deriving DecidableEq, Repr

/-- A queued transaction record (chapter 11.1). -/
structure Record where
  sequence : BitVec 32
  stamp : Option Stamp
  priority : Nat
  report : Report
  deriving DecidableEq, Repr

/-! ## Trunk interface and controller (chapter 10) -/

/-- The link state (R170). -/
inductive LinkState where
  | online
  | offline
  deriving DecidableEq, Repr

/-- The run state (chapter 10.3). -/
inductive RunState where
  | stopped
  | running
  deriving DecidableEq, Repr

/-- The unset-clock policy (R48). -/
inductive UnsetPolicy where
  | deny
  | dateless
  deriving DecidableEq, Repr

/-- A bank check time (chapter 8.1), in the order its values are listed. -/
inductive CheckTime where
  | off
  | ms10
  | ms20
  | ms50
  | ms100
  | ms250
  deriving DecidableEq, Repr

/-- The controller parameters (chapter 10.4). The priority of a kind stands at its code less one. -/
structure Params where
  pairingWindow : Nat
  repeatInterval : Nat
  silenceTimeout : Nat
  policy : UnsetPolicy
  banks : Vector CheckTime 4
  shortThreshold : Nat
  normalTop : Nat
  activeThreshold : Nat
  openThreshold : Nat
  confirmCount : Nat
  priorities : Vector (Fin 4) 35
  deriving DecidableEq, Repr

/-- The result codes of a response, in the order of their numbers (R178). -/
inductive ResultCode where
  | accepted
  | unknownKind
  | badLength
  | badValue
  | notStopped
  | notRunning
  | clockUnset
  | tableFull
  | duplicate
  | credentialLimit
  | notFound
  | windowClosed
  | windowEnd
  | filtered
  | roomOccupied
  | configInconsistent
  deriving DecidableEq, Repr

/-! ## What responses carry -/

/-- What READ STATUS returns (R175). -/
structure StatusReport where
  station : Station
  run : RunState
  link : LinkState
  clock : ClockState
  queueLength : Nat
  highestPriority : Nat
  lost : Nat
  permitSlots : Nat
  exactCount : Nat
  positionsSet : Nat
  entries : Nat
  pairings : Nat
  readersOffline : Nat
  doorsInAlarm : Nat
  roomsUnescorted : Nat
  deriving DecidableEq, Repr

/-- What READ TIME returns (R34). -/
structure TimeReport where
  clock : Clock
  weekday : Nat
  dayNumber : Nat
  minuteOfWeek : Nat
  absoluteMinute : Nat
  deriving DecidableEq, Repr

/-- A permit record as it is reported, with its days as calendar dates (R15, R36). -/
structure PermitReport where
  credential : Credential
  role : Role
  workOrder : Nat
  rooms : BitVec 16
  first : Date
  last : Date
  startMinute : Option Nat
  endMinute : Option Nat
  schedule : Nat
  holidayRule : HolidayRule
  allowance : Nat
  deriving DecidableEq, Repr

/-- What READ PERMIT returns for a slot: FREE, or its state, permit and count (R15). -/
inductive SlotReport where
  | free
  | held (state : SlotState) (permit : PermitReport) (count : Nat)
  deriving DecidableEq, Repr

/-- Where REVOKE placed a credential (R113). -/
inductive Placement where
  | exact
  | filter
  deriving DecidableEq, Repr

/-- What a REVOKE did to the credential's occupancy entry (R114). -/
inductive EntryFate where
  | removed
  | flagged
  | alreadyFlagged
  | notFound
  deriving DecidableEq, Repr

/-- What REVOKE returns (R114). -/
structure RevokeReport where
  placement : Placement
  changed : Bool
  exactCount : Nat
  position : Nat
  positionsSet : Nat
  memberRemoved : Bool
  entry : EntryFate
  deriving DecidableEq, Repr

/-- The answer to "revoked?" (R111). -/
inductive RevocationAnswer where
  | exact
  | filter
  | clear
  deriving DecidableEq, Repr

/-- What CHECK CREDENTIAL returns (R118). -/
structure CredentialReport where
  answer : RevocationAnswer
  position : Nat
  positionSet : Bool
  exactCount : Nat
  positionsSet : Nat
  deriving DecidableEq, Repr

/-- What READ ROOM returns (R105). -/
structure RoomReport where
  room : RoomNo
  supervision : Supervision
  entryCount : Nat
  freeCount : Nat
  entries : List Entry
  deriving DecidableEq, Repr

/-- What READ DOOR returns (R141); a timer is none when it does not run, else its whole seconds left. That each of the
two inputs has a fault flag of its own is a DESIGN CHOICE (notes/assumptions/31.md). -/
structure DoorReport where
  settings : DoorSettings
  mode : DoorMode
  state : DoorState
  lock : LockLevel
  sounder : Sounder
  release : Option Nat
  egress : Option Nat
  allowance : Option Nat
  provisional : List Credential
  positionLevel : Level
  rexLevel : Level
  positionFault : Bool
  rexFault : Bool
  deriving DecidableEq, Repr

/-- The part of READ INPUTS that depends on the input's mode (R154). -/
inductive LineReport where
  | plain (steadyRuns : Bool)
  | supervised (lastValue : Option Nat) (accepted candidate : Option LineClass) (run : Nat)
  deriving DecidableEq, Repr

/-- What READ INPUTS returns of one input (R154). -/
structure InputReport where
  mode : InputMode
  polarity : Polarity
  bank : BankNo
  level : Level
  fault : FaultState
  line : LineReport
  deriving DecidableEq, Repr

/-- What READ INPUTS returns (R154). -/
structure InputsReport where
  confirmCount : Nat
  shortThreshold : Nat
  normalTop : Nat
  activeThreshold : Nat
  openThreshold : Nat
  banks : Vector CheckTime 4
  inputs : List InputReport
  deriving DecidableEq, Repr

/-- What READ READERS returns of one address (R165); the last presentation comes with the whole seconds
since its moment. -/
structure ReaderReport where
  assignment : Option (DoorNo × Direction)
  state : ReaderState
  misses : Nat
  tamper : Bool
  pending : Option Indication
  last : Option (Credential × Nat)
  deriving DecidableEq, Repr

/-- The data of a response, as named fields: the manual gives no byte layout for it
(spec/00_scope.md, Layouts). -/
inductive ResponseData where
  | empty
  | status (report : StatusReport)
  | controller (params : Params)
  | rooms (settings : List RoomSettings)
  /-- The check code and item number of a refused START (R171). -/
  | configFault (check item : Nat)
  /-- The time now held (R31, R32). -/
  | time (clock : Clock)
  | timeReading (report : TimeReport)
  | windowSlots (first last : Nat)
  /-- The slot written, the record as stored and the write position after the advance (R12). -/
  | permitWritten (slot : Nat) (permit : PermitReport) (position : Nat)
  /-- The slot freed and the new write position (R13). -/
  | permitFreed (slot position : Nat)
  /-- The write position that a refusal carries (R12). -/
  | writePosition (position : Nat)
  /-- The write position and the slot already holding the pair (R12, R3). -/
  | duplicateSlot (position slot : Nat)
  | permit (report : SlotReport)
  | slotState (state : SlotState)
  | scheduleHeld (schedule windows : Nat)
  /-- The windows held, in order; their number is the list's length (R19). -/
  | schedule (windows : List WeeklyWindow)
  | holidayCount (days : Nat)
  | holidays (days : List Date)
  | revoked (report : RevokeReport)
  | reinstated (exactCount position : Nat) (positionSet : Bool)
  /-- The exact-list count that a refusal of REVOKE or REINSTATE carries (R109). -/
  | exactCount (count : Nat)
  | filterCleared (positions : Nat)
  | credential (report : CredentialReport)
  | revocations (exactCount positionsSet : Nat) (credentials : List Credential)
  | roomStored (room : RoomNo) (settings : RoomSettings)
  | room (report : RoomReport)
  | occupantCleared (room : RoomNo) (state : EntryState)
  | roomCleared (entries : Nat)
  | doorStored (door : DoorNo) (settings : DoorSettings)
  /-- The mode of each channel named, after the request (R123). -/
  | doorModes (modes : List (DoorNo × DoorMode))
  | doorState (state : DoorState)
  | silenced (state : DoorState) (sounder : Sounder)
  | door (report : DoorReport)
  | inputStored (input : InputNo) (mode : InputMode) (polarity : Polarity) (level : Level)
  | inputs (report : InputsReport)
  /-- The round counter, the repeat interval, and the addresses read (R165). -/
  | readers (round repeatInterval : Nat) (readers : List ReaderReport)
  /-- The records left, the lost count, and the records returned, oldest first (R185). -/
  | collected (left lost : Nat) (records : List Record)
  deriving DecidableEq, Repr

/-- A response that the part owes or is sending: the request's kind code, the result and the data (R169). -/
structure Response where
  kind : Byte
  result : ResultCode
  data : ResponseData
  deriving DecidableEq, Repr

/-! ## The whole part -/

/-- The state of the part. The notes name the chapter that gives each field. -/
structure State where
  /-- The part's elapsed-time base, in milliseconds (chapter 2). -/
  now : Nat
  /-- The moment the timebase gives its next second tick (R26). -/
  nextTick : Nat
  /-- The calendar clock (R25). -/
  clock : Clock
  /-- The non-FREE permit slots in ascending slot order (R1). -/
  permits : List (Nat × PermitSlot)
  /-- The schedule table (R17). -/
  schedules : Vector (List WeeklyWindow) 64
  /-- The holiday list, ascending (R21). -/
  holidays : List Nat
  /-- The exact revocation list, ascending (R109). -/
  exactList : List Credential
  /-- The filter positions that are set, ascending (R110). -/
  filter : List Nat
  /-- The open pairing record of each door (R70). -/
  pairings : Vector (Option PairingRecord) 16
  /-- The rooms (R89, R92). -/
  rooms : Vector Room 16
  /-- The door channels (R120). -/
  doors : Vector DoorChannel 16
  /-- The inputs (R144). -/
  inputs : Vector InputLine 32
  /-- The moment of the next scanner pass (R149). -/
  scanDue : Nat
  /-- The reader entries (chapter 9.1). -/
  readers : Vector Reader 31
  /-- The round counter (R157). -/
  round : Nat
  /-- The address last polled in the round (R157). -/
  lastPolled : Option ReaderNo
  /-- The addresses that were assigned when the loop built its current round (R121, R157). -/
  roundReaders : List ReaderNo
  /-- What the loop is doing (R158). -/
  loop : LoopPhase
  /-- The queued records, oldest first (R183). -/
  queue : List Record
  /-- The sequence the next record is given (R183). -/
  nextSequence : BitVec 32
  /-- The lost count (R184). -/
  lost : Nat
  /-- The station as last read from the straps (R167). -/
  station : Station
  /-- The link state (R170). -/
  link : LinkState
  /-- The silence timer (R170). -/
  silence : Option Nat
  /-- The permit write window, none while it is CLOSED (chapter 1.3). -/
  window : Option PermitWindow
  /-- The run state (chapter 10.3). -/
  run : RunState
  /-- Whether a response is on the line (R169). -/
  sending : Bool
  /-- The responses owed, the one on the line first (R169). -/
  responses : List Response
  /-- The controller parameters (R174). -/
  params : Params
  /-- Whether the reset pin stays held after its reset was taken (R173). -/
  pinHeld : Bool
  /-- The model's own: the commands that are waiting, first in, first out. -/
  pending : List Instr
  deriving DecidableEq, Repr

/-- The faults of a step. The manual gives the part no condition that stops it: there is none. -/
inductive Fault where
  deriving DecidableEq, Repr

/-- The commands that have no meaning. -/
inductive Refusal where
  /-- Raised by exec for a command that this model gives no meaning yet. Safe: nothing can be proved of a
  next state. No arm raises it. -/
  | notModelled (mnemonic : String)
  deriving DecidableEq, Repr

/-! ## The values after power-on -/

/-- The power-on settings of a room (chapter 5.1). -/
def RoomSettings.powerOn : RoomSettings where
  inUse := false
  cap := 4
  policy := .single
  passback := false
  loneBarred := false
  onlineOnly := false
  grace := 15

/-- The power-on settings of a door channel (chapter 7.1). -/
def DoorSettings.powerOn : DoorSettings where
  inService := false
  room := 0
  entryReader := none
  exitReader := none
  releaseTime := 5
  openAllowance := 30
  lockType := .failSecure
  parkLevel := .deEnergised
  relockOnOpen := false
  exitReleases := false
  rexReleases := false
  sounderOnAlarm := true
  denyOnFault := false

/-- A door channel at power-on (chapter 7.3). -/
def DoorChannel.powerOn : DoorChannel where
  settings := .powerOn
  mode := .normal
  state := .idle
  release := none
  egress := none
  allowance := none
  provisional := []
  sounder := .off
  lock := .deEnergised

/-- A room at power-on (R108). -/
def Room.powerOn : Room where
  settings := .powerOn
  supervision := .clear
  entries := []

/-- A reader entry at power-on and after a reset (R166). -/
def Reader.powerOn : Reader where
  state := .pending
  misses := 0
  tamper := false
  pending := none
  last := none

/-- The default priorities, in the order of the kind codes (chapter 11.2). -/
def defaultPriorities : Vector (Fin 4) 35 :=
  #v[1, 2, 1, 1, 1, 1, 1, 1, 1, 1, 3, 3, 3, 1, 1, 2, 3, 1,
     3, 1, 1, 1, 3, 1, 2, 1, 1, 1, 2, 1, 1, 2, 1, 1, 1]

/-- The power-on values of the controller parameters (chapter 10.4). -/
def Params.powerOn : Params where
  pairingWindow := 20
  repeatInterval := 2
  silenceTimeout := 60
  policy := .deny
  banks := #v[.ms20, .ms20, .ms20, .ms20]
  shortThreshold := 80
  normalTop := 400
  activeThreshold := 500
  openThreshold := 850
  confirmCount := 2
  priorities := defaultPriorities

/-- The clock at power-on (R25). -/
def Clock.powerOn : Clock where
  state := .unset
  date := ⟨0, 1, 1⟩
  hour := 0
  minute := 0
  second := 0

/-- An input at power-on, with its contact as it stands and its steady timer started with the bank's 20 ms
(R144, R148, R155). Door-position inputs are even, request-to-exit inputs odd. -/
def InputLine.powerOn (i : Nat) (contact : Contact) : InputLine where
  mode := .plain
  polarity := if i % 2 = 0 then .normallyClosed else .normallyOpen
  contact := contact
  level := .unclassified
  fault := .none
  steady := some 20
  lastValue := none
  accepted := none
  candidate := none
  run := 0

/-- The part right after power-on (R173 and the power-on column of every chapter). DESIGN CHOICE
(notes/assumptions/2.md): the straps read station 1, and every contact is in its rest position: the
door-position contacts closed, the request-to-exit contacts open. -/
def State.reset : State where
  now := 0
  nextTick := 1000
  clock := .powerOn
  permits := []
  schedules := Vector.replicate 64 []
  holidays := []
  exactList := []
  filter := []
  pairings := Vector.replicate 16 none
  rooms := Vector.replicate 16 .powerOn
  doors := Vector.replicate 16 .powerOn
  inputs := Vector.ofFn fun i =>
    .powerOn i.val (if i.val % 2 = 0 then .closed else .opened)
  scanDue := 0
  readers := Vector.replicate 31 .powerOn
  round := 0
  lastPolled := none
  roundReaders := []
  loop := .silent
  queue := []
  nextSequence := 0
  lost := 0
  station := .address 1
  link := .offline
  silence := none
  window := none
  run := .stopped
  sending := false
  responses := []
  params := .powerOn
  pinHeld := false
  pending := []

end Sys2Proof.Machine
end

