-- ==== Sys2Proof/Machine/Ops.lean ====
section
/-! DEFINITION. The operations that every block shares: reading and writing one door, room, input, reader
or pairing record; ascending lists and the slot table; submitting a record (R181 to R184); the elapsed-time
base; and taking a request frame (R169, R170). -/

namespace Sys2Proof.Machine

/-! ## One door, room, input, reader or pairing record -/

def State.door (s : State) (k : DoorNo) : DoorChannel := s.doors[k]

def State.setDoor (s : State) (k : DoorNo) (d : DoorChannel) : State :=
  { s with doors := s.doors.set k d }

def State.modifyDoor (s : State) (k : DoorNo) (f : DoorChannel → DoorChannel) : State :=
  s.setDoor k (f (s.door k))

def State.room (s : State) (r : RoomNo) : Room := s.rooms[r]

def State.setRoom (s : State) (r : RoomNo) (x : Room) : State :=
  { s with rooms := s.rooms.set r x }

def State.modifyRoom (s : State) (r : RoomNo) (f : Room → Room) : State :=
  s.setRoom r (f (s.room r))

def State.input (s : State) (i : InputNo) : InputLine := s.inputs[i]

def State.setInput (s : State) (i : InputNo) (x : InputLine) : State :=
  { s with inputs := s.inputs.set i x }

def State.modifyInput (s : State) (i : InputNo) (f : InputLine → InputLine) : State :=
  s.setInput i (f (s.input i))

def State.reader (s : State) (a : ReaderNo) : Reader := s.readers[a]

def State.setReader (s : State) (a : ReaderNo) (x : Reader) : State :=
  { s with readers := s.readers.set a x }

def State.modifyReader (s : State) (a : ReaderNo) (f : Reader → Reader) : State :=
  s.setReader a (f (s.reader a))

def State.pairing (s : State) (k : DoorNo) : Option PairingRecord := s.pairings[k]

def State.setPairing (s : State) (k : DoorNo) (p : Option PairingRecord) : State :=
  { s with pairings := s.pairings.set k p }

/-- The sixteen numbers of doors and of rooms, ascending. -/
def sixteen : List (Fin 16) := List.finRange 16

/-- The door's room, as its settings hold it. -/
def State.roomOf (s : State) (k : DoorNo) : RoomNo := (s.door k).settings.room

/-! ## Ascending lists -/

/-- Insert at the place in ascending order, leaving a list that holds the value unchanged. -/
def insertAscending {α : Type} [LT α] [DecidableEq α] [DecidableRel (α := α) (· < ·)] (a : α) :
    List α → List α
  | [] => [a]
  | b :: rest =>
    if a < b then a :: b :: rest
    else if a = b then b :: rest
    else b :: insertAscending a rest

/-- Take a value out of a list. -/
def removeFrom {α : Type} [DecidableEq α] (a : α) (l : List α) : List α :=
  l.filter (· ≠ a)

/-! ## The slot table (R1) -/

/-- What a slot holds, none for FREE. -/
def slotAt (n : Nat) : List (Nat × PermitSlot) → Option PermitSlot
  | [] => none
  | (m, p) :: rest => if m = n then some p else slotAt n rest

/-- Put a permit into a slot, at its place in slot order. -/
def putSlot (n : Nat) (p : PermitSlot) : List (Nat × PermitSlot) → List (Nat × PermitSlot)
  | [] => [(n, p)]
  | (m, q) :: rest =>
    if n < m then (n, p) :: (m, q) :: rest
    else if n = m then (n, p) :: rest
    else (m, q) :: putSlot n p rest

/-- Free a slot. -/
def freeSlot (n : Nat) (table : List (Nat × PermitSlot)) : List (Nat × PermitSlot) :=
  table.filter fun e => e.1 ≠ n

/-- Change what a non-FREE slot holds. -/
def changeSlot (n : Nat) (f : PermitSlot → PermitSlot) (table : List (Nat × PermitSlot)) :
    List (Nat × PermitSlot) :=
  table.map fun e => if e.1 = n then (e.1, f e.2) else e

/-- The state of a slot, none for FREE (R1). -/
def State.slot (s : State) (n : Nat) : Option PermitSlot := slotAt n s.permits

/-! ## Readings and stamps (R29) -/

/-- The stamp of a reading, absent when the clock is UNSET (R29). -/
def Clock.stamp (c : Clock) : Option Stamp :=
  match c.state with
  | .set => some ⟨c.date, c.hour, c.minute, c.second⟩
  | .unset => none

/-! ## Transaction records (chapter 11) -/

/-- The code of a record kind (chapter 11.2). -/
def RecordKind.code : RecordKind → Nat
  | .entryGranted => 0x01
  | .entryDenied => 0x02
  | .entryPending => 0x03
  | .regrant => 0x04
  | .unassignedReader => 0x05
  | .exit => 0x06
  | .exitUnmatched => 0x07
  | .impliedExit => 0x08
  | .notEntered => 0x09
  | .occupantCleared => 0x0A
  | .overstay => 0x0B
  | .revokedInside => 0x0C
  | .unescorted => 0x0D
  | .escortRestored => 0x0E
  | .pairingAbandoned => 0x0F
  | .revocationOverflow => 0x10
  | .doorForced => 0x11
  | .doorForcedEnd => 0x12
  | .doorHeld => 0x13
  | .doorHeldEnd => 0x14
  | .doorModeChanged => 0x15
  | .remoteRelease => 0x16
  | .inputFault => 0x17
  | .inputFaultEnd => 0x18
  | .readerOffline => 0x19
  | .readerOnline => 0x1A
  | .readerTamper => 0x1B
  | .readerTamperEnd => 0x1C
  | .linkDown => 0x1D
  | .linkUp => 0x1E
  | .clockSet => 0x1F
  | .clockUnset => 0x20
  | .controllerStarted => 0x21
  | .controllerStopped => 0x22
  | .controllerReset => 0x23

/-- The priority the controller parameters hold for a kind (R182). -/
def Params.priority (p : Params) (k : RecordKind) : Nat :=
  (p.priorities[k.code - 1]?.getD 0).val

/-- The lowest priority present among queued records, 4 when there is none. -/
def lowestPriority : List Record → Nat
  | [] => 4
  | r :: rest => min r.priority (lowestPriority rest)

/-- Remove the oldest record of a priority. -/
def dropOldest (p : Nat) : List Record → List Record
  | [] => []
  | r :: rest => if r.priority = p then rest else r :: dropOldest p rest

/-- A record reaches the queue: appended while there is room (R183), and else it displaces the oldest record
of the lowest priority present when that is not above its own, and is discarded otherwise (R184). -/
def enqueue (r : Record) (queue : List Record) : List Record :=
  if queue.length < Config.queueCapacity then queue ++ [r]
  else if lowestPriority queue ≤ r.priority then dropOldest (lowestPriority queue) queue ++ [r]
  else queue

/-- A block submits a record. A kind of priority 0 is not queued (R182). Any other is given its stamp,
priority and sequence (R181, R183), and each arrival into a full queue raises the lost count (R184). -/
def State.submit (s : State) (r : Report) : State :=
  let p := s.params.priority r.kind
  if p = 0 then s
  else
    { s with
      queue := enqueue ⟨s.nextSequence, s.clock.stamp, p, r⟩ s.queue
      nextSequence := s.nextSequence + 1
      lost := if s.queue.length < Config.queueCapacity then s.lost
        else min (s.lost + 1) Config.lostMax }

/-- Submit several records in order. -/
def State.submitAll (s : State) (rs : List Report) : State :=
  rs.foldl State.submit s

/-! ## Elapsed time -/

/-- The elapsed-time base when an event that falls due at a moment is taken: it stands at that moment or
later (DESIGN CHOICE, notes/assumptions/1.md). -/
def State.reach (s : State) (moment : Nat) : State :=
  { s with now := max s.now moment }

/-- The moment a number of seconds from now. -/
def State.after (s : State) (seconds : Nat) : Nat := s.now + seconds * Config.second

/-- The whole seconds left of a running timer, rounded up (R141). -/
def State.secondsLeft (s : State) (timer : Option Nat) : Option Nat :=
  timer.map fun deadline => (deadline - s.now + 999) / Config.second

/-! ## Requests (R169, R170) -/

/-- What the owner of a request answers. -/
structure Reply where
  result : ResultCode
  data : ResponseData
  deriving DecidableEq, Repr

/-- ACCEPTED with data. -/
def accept (data : ResponseData) : Reply := ⟨.accepted, data⟩

/-- A refusal that carries its code alone. -/
def refuse (code : ResultCode) : Reply := ⟨code, .empty⟩

/-- Whether this controller has a station number (R167). -/
def hasAddress : Station → Bool
  | .address _ => true
  | .broadcastOnly => false

/-- Whether the trunk interface receives a request frame: not while it is sending (R168), not while the
reset pin is held (R173), and, when the frame is addressed, only with a station number (R167). -/
def State.receives (s : State) (r : Req) : Bool :=
  !s.sending && !s.pinHeld && (r.broadcast || hasAddress s.station)

/-- Step 1 of R169: the silence timer restarts, and an OFFLINE link becomes ONLINE with LINK_UP (R170). -/
def State.linkHeard (s : State) : State :=
  let s1 := match s.link with
    | .online => s
    | .offline => { s.submit { kind := .linkUp } with link := .online }
  { s1 with silence := some (s.after s.params.silenceTimeout) }

/-- Step 2 of R169: an open permit write window closes (R14). -/
def State.closeWindow (s : State) : State := { s with window := none }

/-- The response to an addressed request; a broadcast has none (R169). -/
def State.respond (s : State) (r : Req) (code : Byte) (reply : Reply) : State :=
  if r.broadcast then s
  else { s with responses := s.responses ++ [⟨code, reply.result, reply.data⟩] }

/-- Steps 1 and 2 of R169 for a request of a kind. -/
def State.takeFrame (s : State) (keepWindow : Bool) : State :=
  if keepWindow then s.linkHeard else s.linkHeard.closeWindow

/-- Take a request of a known kind (R169): link, window, length, owner, response. `owner` carries the
request out on its payload or refuses it. A frame that is not received changes nothing. -/
def takeRequest (kind : RequestKind) (r : Req) (owner : List Byte → State → Reply × State)
    (s : State) : State :=
  if s.receives r then
    let s1 := s.takeFrame (kind == .permitRecord && !r.broadcast)
    if kind.allows r.payload then
      if r.broadcast && !kind.carriedWhenBroadcast then s1
      else
        let answer := owner r.payload s1
        answer.2.respond r kind.code answer.1
    else s1.respond r kind.code (refuse .badLength)
  else s

end Sys2Proof.Machine
end

