-- ==== Sys2Proof/Machine/Calendar.lean ====
section
/-! DEFINITION. Calendar arithmetic (R26, R35 to R37), weekly windows (R38, R39) and the entitled-until
time (R40, R41). All of it works on a reading of the clock (R29). -/

namespace Sys2Proof.Machine

/-! ## Dates -/

/-- A year of the century is a leap year when it is divisible by 4 (R26). -/
def isLeap (year : Nat) : Bool := year % 4 == 0

/-- The length of a month, 0 for a number that is no month (R26). -/
def monthLength (year month : Nat) : Nat :=
  match month with
  | 1 => 31
  | 2 => if isLeap year then 29 else 28
  | 3 => 31
  | 4 => 30
  | 5 => 31
  | 6 => 30
  | 7 => 31
  | 8 => 31
  | 9 => 30
  | 10 => 31
  | 11 => 30
  | 12 => 31
  | _ => 0

/-- Whether a date is a calendar date between 1 January 2000 and 31 December 2099 (R36). -/
def Date.valid (d : Date) : Bool :=
  decide (d.year ≤ 99) && decide (1 ≤ d.month) && decide (d.month ≤ 12) && decide (1 ≤ d.day) &&
    decide (d.day ≤ monthLength d.year d.month)

/-- The days before a month in a year that is no leap year (R35). -/
def daysBeforeMonth (month : Nat) : Nat :=
  match month with
  | 2 => 31
  | 3 => 59
  | 4 => 90
  | 5 => 120
  | 6 => 151
  | 7 => 181
  | 8 => 212
  | 9 => 243
  | 10 => 273
  | 11 => 304
  | 12 => 334
  | _ => 0

/-- The days before a month, raised by one for March onwards in a leap year (R35, R36). -/
def daysBefore (year month : Nat) : Nat :=
  daysBeforeMonth month + if isLeap year && decide (3 ≤ month) then 1 else 0

/-- The day number of 1 January of a year (R36). -/
def yearStart (year : Nat) : Nat := 365 * year + (year + 3) / 4

/-- The day number of a date (R35). -/
def Date.dayNumber (d : Date) : Nat :=
  yearStart d.year + daysBefore d.year d.month + (d.day - 1)

/-- The largest year from 0 to the given one that starts at or before a day number (R36 step 1). -/
def yearOfDay (day : Nat) : Nat → Nat
  | 0 => 0
  | y + 1 => if yearStart (y + 1) ≤ day then y + 1 else yearOfDay day y

/-- The last month, up to the given one, whose days before it are not greater than a remainder (R36
step 2). -/
def monthOfRemainder (year r : Nat) : Nat → Nat
  | 0 => 1
  | m + 1 => if daysBefore year (m + 1) ≤ r then m + 1 else monthOfRemainder year r m

/-- The date of a day number (R36). -/
def dateOfDay (day : Nat) : Date :=
  let year := yearOfDay day 99
  let r := day - yearStart year
  let month := monthOfRemainder year r 12
  ⟨year, month, r - daysBefore year month + 1⟩

/-- The day after a date (R26). -/
def Date.next (d : Date) : Date :=
  if d.day < monthLength d.year d.month then { d with day := d.day + 1 }
  else if d.month < 12 then ⟨d.year, d.month + 1, 1⟩
  else ⟨d.year + 1, 1, 1⟩

/-! ## Readings (R37) -/

/-- The day number of a reading (R37). -/
def Clock.dayNumber (c : Clock) : Nat := c.date.dayNumber

/-- The weekday of a reading, Monday 0 to Sunday 6 (R37). -/
def Clock.weekday (c : Clock) : Nat := (c.dayNumber + 5) % 7

/-- The minute of the day of a reading (R37). -/
def Clock.minuteOfDay (c : Clock) : Nat := c.hour * 60 + c.minute

/-- The minute of the week of a reading (R37). -/
def Clock.minuteOfWeek (c : Clock) : Nat := c.weekday * 1440 + c.minuteOfDay

/-- The absolute minute of a reading (R37). -/
def Clock.absoluteMinute (c : Clock) : Nat := c.dayNumber * 1440 + c.minuteOfDay

/-- The absolute second of a reading (R37). -/
def Clock.absoluteSecond (c : Clock) : Nat := c.absoluteMinute * 60 + c.second

/-- The absolute minute that an entry keeps as a stamp, absent when the reading is UNSET (R29). -/
def Clock.minuteStamp (c : Clock) : Option Nat :=
  match c.state with
  | .set => some c.absoluteMinute
  | .unset => none

/-- Whether the fields form a valid date and time of the range of the clock (R25, R30). -/
def Clock.valid (c : Clock) : Bool :=
  c.date.valid && decide (c.hour ≤ 23) && decide (c.minute ≤ 59) && decide (c.second ≤ 59)

/-! ## Counting (R26) -/

/-- The whole minute after a reading, carried into the hour, day, month and year (R26, R32). -/
def Clock.nextMinute (c : Clock) : Clock :=
  if c.minute < 59 then { c with minute := c.minute + 1, second := 0 }
  else if c.hour < 23 then { c with hour := c.hour + 1, minute := 0, second := 0 }
  else { c with date := c.date.next, hour := 0, minute := 0, second := 0 }

/-- The last day of the clock's range (R28). -/
def lastDate : Date := ⟨99, 12, 31⟩

/-- Whether the clock stands in the last minute of the century (R28, R33). -/
def Clock.lastMinute (c : Clock) : Bool :=
  c.date == lastDate && c.hour == 23 && c.minute == 59

/-- The clock one second on: the end of the century leaves it UNSET at 2000-01-01 00:00:00 (R28). -/
def Clock.tick (c : Clock) : Clock :=
  if c.second < 59 then { c with second := c.second + 1 }
  else if c.lastMinute then .powerOn
  else c.nextMinute

/-! ## Weekly windows (R38, R39) -/

/-- Minutes in a week. -/
def weekMinutes : Nat := 10080

/-- The minutes since a window last opened, at minute-of-week `m` (R38). -/
def WeeklyWindow.offset (w : WeeklyWindow) (m : Nat) : Nat :=
  (m + weekMinutes - w.start) % weekMinutes

/-- Whether a window contains the minute-of-week `m` (R38). -/
def WeeklyWindow.contains (w : WeeklyWindow) (m : Nat) : Bool :=
  decide (w.offset m < w.length)

/-- The remaining time of a window that contains `m` (R38). -/
def WeeklyWindow.remaining (w : WeeklyWindow) (m : Nat) : Nat :=
  w.length - w.offset m

/-- The windows of a schedule number, none for a number that is not in the table (R17). -/
def State.schedule (s : State) (n : Nat) : List WeeklyWindow :=
  s.schedules[n]?.getD []

/-- Whether a permit's schedule matches the minute-of-week `m`; 255 always does (R39). -/
def State.scheduleMatches (s : State) (n m : Nat) : Bool :=
  n == 255 || (s.schedule n).any fun w => w.contains m

/-! ## Entitled-until (R40, R41) -/

/-- The largest remaining time among the windows that contain `m` (R40 step 1). -/
def longestRemaining (windows : List WeeklyWindow) (m : Nat) : Nat :=
  (windows.filter fun w => w.contains m).foldl (fun best w => max best (w.remaining m)) 0

/-- The permit end: the absolute minute at which the permit's span closes (R40 step 2). -/
def PermitRecord.permitEnd (p : PermitRecord) : Nat :=
  p.lastDay * 1440 + p.endMinute.getD 1440

/-- The entitled-until time of a grant under a permit at a reading: absent for an ESCORT and for an UNSET
clock (R41), the permit end for schedule 255, and else the smaller of the window candidate and the permit
end (R40). -/
def State.entitledUntil (s : State) (p : PermitRecord) (reading : Clock) : Option Nat :=
  match p.role, reading.state with
  | .contractor, .set =>
    if p.schedule = 255 then some p.permitEnd
    else
      some (min (reading.absoluteMinute +
        longestRemaining (s.schedule p.schedule) reading.minuteOfWeek) p.permitEnd)
  | _, _ => none

end Sys2Proof.Machine
end

