-- ==== Sys2Proof/Machine/Operands.lean ====
section
/-! DEFINITION. The operands of the requests: reading a payload's bytes as the fields its request names, and
writing them (R177, R178). R177 gives the encoding of a value; the order and widths of the fields are
DEDUCED (notes/assumptions/5.md). A reader answers none for a value outside its encoding, which the owner
refuses with BAD_VALUE. -/

namespace Sys2Proof.Machine

/-! ## Numbers -/

/-- A number of several bytes, most significant first (R177). -/
def numberOf (bytes : List Byte) : Nat :=
  bytes.foldl (fun n b => n * 256 + b.toNat) 0

/-- The low bytes of a number, `width` of them, most significant first (R177). -/
def bytesOf (width n : Nat) : List Byte :=
  match width with
  | 0 => []
  | w + 1 => bytesOf w (n / 256) ++ [BitVec.ofNat 8 n]

/-- A number below 16: a door channel or a room. -/
def sixteenOf (b : Byte) : Option (Fin 16) :=
  if h : b.toNat < 16 then some ⟨b.toNat, h⟩ else none

/-- A number below 32: an input. -/
def inputOf (b : Byte) : Option InputNo :=
  if h : b.toNat < 32 then some ⟨b.toNat, h⟩ else none

/-- A reader address, 1 to 31. -/
def readerOf (b : Byte) : Option ReaderNo :=
  if h : 1 ≤ b.toNat ∧ b.toNat - 1 < 31 then some ⟨b.toNat - 1, h.2⟩ else none

/-- A yes-or-no setting: yes is 1 and no is 0 (R177). -/
def yesNoOf (b : Byte) : Option Bool :=
  if b = 1 then some true else if b = 0 then some false else none

/-- A yes-or-no setting as its byte (R177). -/
def byteOfYesNo (v : Bool) : Byte := if v then 1 else 0

/-- The byte of a number. -/
def byteOf (n : Nat) : Byte := BitVec.ofNat 8 n

/-! ## Enumerated values, numbered from 0 in the order the manual lists them (R177) -/

def roleOf (b : Byte) : Option Role :=
  if b = 0 then some .contractor else if b = 1 then some .escort else none

def Role.byte : Role → Byte
  | .contractor => 0
  | .escort => 1

def holidayRuleOf (b : Byte) : Option HolidayRule :=
  if b = 0 then some .honour else if b = 1 then some .ignore else none

def HolidayRule.byte : HolidayRule → Byte
  | .honour => 0
  | .ignore => 1

def policyOf (b : Byte) : Option EntryPolicy :=
  if b = 0 then some .single else if b = 1 then some .escorted
  else if b = 2 then some .escortPresent else none

def EntryPolicy.byte : EntryPolicy → Byte
  | .single => 0
  | .escorted => 1
  | .escortPresent => 2

def lockTypeOf (b : Byte) : Option LockType :=
  if b = 0 then some .failSecure else if b = 1 then some .failSafe else none

def LockType.byte : LockType → Byte
  | .failSecure => 0
  | .failSafe => 1

def lockLevelOf (b : Byte) : Option LockLevel :=
  if b = 0 then some .energised else if b = 1 then some .deEnergised else none

def LockLevel.byte : LockLevel → Byte
  | .energised => 0
  | .deEnergised => 1

def modeOf (b : Byte) : Option DoorMode :=
  if b = 0 then some .normal else if b = 1 then some .lockdown
  else if b = 2 then some .outOfService else none

/-- The number of a door mode (R123, R177). -/
def DoorMode.number : DoorMode → Nat
  | .normal => 0
  | .lockdown => 1
  | .outOfService => 2

def inputModeOf (b : Byte) : Option InputMode :=
  if b = 0 then some .plain else if b = 1 then some .supervised else none

def InputMode.byte : InputMode → Byte
  | .plain => 0
  | .supervised => 1

def polarityOf (b : Byte) : Option Polarity :=
  if b = 0 then some .normallyClosed else if b = 1 then some .normallyOpen else none

def Polarity.byte : Polarity → Byte
  | .normallyClosed => 0
  | .normallyOpen => 1

def unsetPolicyOf (b : Byte) : Option UnsetPolicy :=
  if b = 0 then some .deny else if b = 1 then some .dateless else none

def UnsetPolicy.byte : UnsetPolicy → Byte
  | .deny => 0
  | .dateless => 1

def checkTimeOf (b : Byte) : Option CheckTime :=
  if b = 0 then some .off else if b = 1 then some .ms10 else if b = 2 then some .ms20
  else if b = 3 then some .ms50 else if b = 4 then some .ms100
  else if b = 5 then some .ms250 else none

def CheckTime.byte : CheckTime → Byte
  | .off => 0
  | .ms10 => 1
  | .ms20 => 2
  | .ms50 => 3
  | .ms100 => 4
  | .ms250 => 5

/-! ## Dates and times -/

/-- A date on the trunk: year offset, month and day (R177). -/
def dateOf (y m d : Byte) : Date := ⟨y.toNat, m.toNat, d.toNat⟩

/-- A date as its three bytes (R177). -/
def Date.bytes (d : Date) : List Byte := [byteOf d.year, byteOf d.month, byteOf d.day]

/-- The time that SET TIME carries, as a SET clock (R30, R31). -/
def timeOf : List Byte → Option Clock
  | [y, mo, d, h, mi, se] => some ⟨.set, dateOf y mo d, h.toNat, mi.toNat, se.toNat⟩
  | _ => none

/-- The payload of SET TIME. -/
def Clock.bytes (c : Clock) : List Byte :=
  c.date.bytes ++ [byteOf c.hour, byteOf c.minute, byteOf c.second]

/-! ## Permit records (chapter 1.1, R2) -/

/-- A permit record as it is offered, before any check of R2. -/
structure PermitOffer where
  credential : Credential
  role : Option Role
  workOrder : Nat
  rooms : BitVec 16
  first : Date
  last : Date
  startMinute : Nat
  endMinute : Nat
  schedule : Nat
  holidayRule : Option HolidayRule
  allowance : Nat
  deriving DecidableEq, Repr

/-- The record that follows the first byte of a 24-byte PERMIT RECORD payload, its fields in the order of
the table of chapter 1.1. -/
def permitOfferOf : List Byte → Option PermitOffer
  | [c3, c2, c1, c0, role, w2, w1, w0, r1, r0, fy, fm, fd, ly, lm, ld, s1, s0, e1, e0, sch, hol, alw] =>
    some
      { credential := credentialOfBytes c3 c2 c1 c0
        role := roleOf role
        workOrder := numberOf [w2, w1, w0]
        rooms := r1 ++ r0
        first := dateOf fy fm fd
        last := dateOf ly lm ld
        startMinute := numberOf [s1, s0]
        endMinute := numberOf [e1, e0]
        schedule := sch.toNat
        holidayRule := holidayRuleOf hol
        allowance := alw.toNat }
  | _ => none

/-- The marker of an absent start or end minute (R177). -/
def absentMinute : Nat := 0xFFFF

/-- A start or end minute as stored: absent for FFFFh, and clamped to 1439 (R2). -/
def storedMinute (m : Nat) : Option Nat :=
  if m = absentMinute then none else some (min m 1439)

/-- A start or end minute as it travels (R177). -/
def minuteNumber : Option Nat → Nat
  | none => absentMinute
  | some m => m

/-- The structural check and the clamps of R2: none for a structural fault, else the record as stored. -/
def PermitOffer.checked (o : PermitOffer) : Option PermitRecord :=
  match o.role, o.holidayRule with
  | some role, some holidayRule =>
    let orderOk := match role with
      | .contractor => decide (1 ≤ o.workOrder) && decide (o.workOrder ≤ 999999)
      | .escort => o.workOrder == 0
    if o.credential ≠ 0 && orderOk && o.rooms ≠ 0 && o.first.valid && o.last.valid &&
        decide (o.first.dayNumber ≤ o.last.dayNumber) &&
        (decide (o.schedule ≤ 63) || o.schedule == 255) then
      some
        { credential := o.credential
          role := role
          workOrder := o.workOrder
          rooms := o.rooms
          firstDay := o.first.dayNumber
          lastDay := o.last.dayNumber
          startMinute := storedMinute o.startMinute
          endMinute := storedMinute o.endMinute
          schedule := o.schedule
          holidayRule := holidayRule
          allowance := min o.allowance 15 }
    else none
  | _, _ => none

/-- The payload of PERMIT RECORD for a permit record: first byte 1, then the fields (R178). -/
def PermitRecord.bytes (p : PermitRecord) : List Byte :=
  1 :: bytesOfCredential p.credential ++ [p.role.byte] ++ bytesOf 3 p.workOrder ++
    bytesOf16 p.rooms ++ (dateOfDay p.firstDay).bytes ++ (dateOfDay p.lastDay).bytes ++
    bytesOf 2 (minuteNumber p.startMinute) ++ bytesOf 2 (minuteNumber p.endMinute) ++
    [byteOf p.schedule, p.holidayRule.byte, byteOf p.allowance]

/-- A stored permit record as it is reported (R15, R36). -/
def PermitRecord.report (p : PermitRecord) : PermitReport where
  credential := p.credential
  role := p.role
  workOrder := p.workOrder
  rooms := p.rooms
  first := dateOfDay p.firstDay
  last := dateOfDay p.lastDay
  startMinute := p.startMinute
  endMinute := p.endMinute
  schedule := p.schedule
  holidayRule := p.holidayRule
  allowance := p.allowance

/-! ## Schedules (R18) -/

/-- The windows of a WRITE SCHEDULE payload, four bytes each. -/
def windowsOf : List Byte → List WeeklyWindow
  | s1 :: s0 :: l1 :: l0 :: rest => ⟨numberOf [s1, s0], numberOf [l1, l0]⟩ :: windowsOf rest
  | _ => []

/-- Whether a window may be stored (R18). -/
def WeeklyWindow.allowed (w : WeeklyWindow) : Bool :=
  decide (w.start ≤ 10079) && decide (1 ≤ w.length) && decide (w.length ≤ 10080)

/-- A window as its four bytes. -/
def WeeklyWindow.bytes (w : WeeklyWindow) : List Byte := bytesOf 2 w.start ++ bytesOf 2 w.length

/-- The payload of WRITE SCHEDULE. -/
def scheduleBytes (n : Nat) (windows : List WeeklyWindow) : List Byte :=
  byteOf n :: byteOf windows.length :: windows.flatMap WeeklyWindow.bytes

/-! ## Room, door and input settings -/

/-- The settings that follow the room number in SET ROOM, clamped as R90 step 3 gives. -/
def roomSettingsOf : List Byte → Option RoomSettings
  | [inUse, cap, policy, passback, lone, online, grace] =>
    match yesNoOf inUse, policyOf policy, yesNoOf passback, yesNoOf lone, yesNoOf online with
    | some inUse, some policy, some passback, some lone, some online =>
      some
        { inUse := inUse
          cap := min (max cap.toNat 1) 32
          policy := policy
          passback := passback
          loneBarred := lone
          onlineOnly := online
          grace := min grace.toNat 240 }
    | _, _, _, _, _ => none
  | _ => none

/-- The settings of a room as SET ROOM carries them, after the room number. -/
def RoomSettings.bytes (x : RoomSettings) : List Byte :=
  [byteOfYesNo x.inUse, byteOf x.cap, x.policy.byte, byteOfYesNo x.passback, byteOfYesNo x.loneBarred,
   byteOfYesNo x.onlineOnly, byteOf x.grace]

/-- The entry reader of SET DOOR: 0 for none, 1 to 31 for an address, anything else refused (R121). -/
def entryReaderOf (b : Byte) : Option (Option ReaderNo) :=
  if b = 0 then some none else (readerOf b).map some

/-- The exit reader of SET DOOR: FFh when absent, 1 to 31 for an address, anything else refused (R121,
R177). -/
def exitReaderOf (b : Byte) : Option (Option ReaderNo) :=
  if b = 255 then some none else (readerOf b).map some

/-- The settings that follow the channel number in SET DOOR, clamped as R121 step 3 gives. -/
def doorSettingsOf : List Byte → Option DoorSettings
  | [inService, room, entryR, exitR, release, a1, a0, lock, park, relock, exitRel, rexRel, sound, deny] =>
    match yesNoOf inService, sixteenOf room, entryReaderOf entryR, exitReaderOf exitR, lockTypeOf lock,
      lockLevelOf park with
    | some inService, some room, some entryR, some exitR, some lock, some park =>
      match yesNoOf relock, yesNoOf exitRel, yesNoOf rexRel, yesNoOf sound, yesNoOf deny with
      | some relock, some exitRel, some rexRel, some sound, some deny =>
        some
          { inService := inService
            room := room
            entryReader := entryR
            exitReader := exitR
            releaseTime := min (max release.toNat 1) 60
            openAllowance := min (max (numberOf [a1, a0]) 5) 600
            lockType := lock
            parkLevel := park
            relockOnOpen := relock
            exitReleases := exitRel
            rexReleases := rexRel
            sounderOnAlarm := sound
            denyOnFault := deny }
      | _, _, _, _, _ => none
    | _, _, _, _, _, _ => none
  | _ => none

/-- The byte of a reader address, or of its absence. -/
def readerByte (absent : Byte) : Option ReaderNo → Byte
  | none => absent
  | some a => byteOf (a.val + 1)

/-- The settings of a door as SET DOOR carries them, after the channel number. -/
def DoorSettings.bytes (x : DoorSettings) : List Byte :=
  [byteOfYesNo x.inService, byteOf x.room.val, readerByte 0 x.entryReader, readerByte 255 x.exitReader,
   byteOf x.releaseTime] ++ bytesOf 2 x.openAllowance ++
  [x.lockType.byte, x.parkLevel.byte, byteOfYesNo x.relockOnOpen, byteOfYesNo x.exitReleases,
   byteOfYesNo x.rexReleases, byteOfYesNo x.sounderOnAlarm, byteOfYesNo x.denyOnFault]

/-- The channels that SET DOOR MODE names: one, or with FFh all in ascending order (R123, R178). -/
def channelsOf (b : Byte) : Option (List DoorNo) :=
  if b = 255 then some sixteen else (sixteenOf b).map fun k => [k]

/-! ## Controller parameters (R174) -/

/-- The priorities of SET CONTROLLER, one byte for each kind in the order of the kind codes. -/
def prioritiesOf (bytes : List Byte) : Option (Vector (Fin 4) 35) :=
  if bytes.all fun b => decide (b.toNat ≤ 3) then
    some (Vector.ofFn fun i => Fin.ofNat 4 (bytes.getD i.val 0).toNat)
  else none

/-- The parameters of a SET CONTROLLER payload, clamped as R174 step 2 gives; none for what R174 step 1
refuses. The fields stand in the order of the table of chapter 10.4. -/
def paramsOf : List Byte → Option Params
  | window :: rep :: t1 :: t0 :: policy :: b0 :: b1 :: b2 :: b3 ::
      sh1 :: sh0 :: nt1 :: nt0 :: ac1 :: ac0 :: op1 :: op0 :: confirm :: priorities =>
    let short := numberOf [sh1, sh0]
    let normalTop := numberOf [nt1, nt0]
    let active := numberOf [ac1, ac0]
    let open_ := numberOf [op1, op0]
    match unsetPolicyOf policy, checkTimeOf b0, checkTimeOf b1, checkTimeOf b2, checkTimeOf b3,
      prioritiesOf priorities with
    | some policy, some b0, some b1, some b2, some b3, some priorities =>
      if 1 ≤ short ∧ short < normalTop ∧ normalTop < active ∧ active < open_ ∧ open_ ≤ 1023 then
        some
          { pairingWindow := min (max window.toNat 5) 60
            repeatInterval := min rep.toNat 10
            silenceTimeout := min (max (numberOf [t1, t0]) 10) 600
            policy := policy
            banks := #v[b0, b1, b2, b3]
            shortThreshold := short
            normalTop := normalTop
            activeThreshold := active
            openThreshold := open_
            confirmCount := min (max confirm.toNat 1) 4
            priorities := priorities }
      else none
    | _, _, _, _, _, _ => none
  | _ => none

/-- The payload of SET CONTROLLER. -/
def Params.bytes (p : Params) : List Byte :=
  [byteOf p.pairingWindow, byteOf p.repeatInterval] ++ bytesOf 2 p.silenceTimeout ++
    [p.policy.byte, p.banks[0].byte, p.banks[1].byte, p.banks[2].byte, p.banks[3].byte] ++
    bytesOf 2 p.shortThreshold ++ bytesOf 2 p.normalTop ++ bytesOf 2 p.activeThreshold ++
    bytesOf 2 p.openThreshold ++ [byteOf p.confirmCount] ++
    (List.finRange 35).map fun i => byteOf p.priorities[i].val

/-! ## Credentials -/

/-- The credential of a four-byte payload. -/
def credentialOf : List Byte → Option Credential
  | [b3, b2, b1, b0] => some (credentialOfBytes b3 b2 b1 b0)
  | _ => none

end Sys2Proof.Machine
end

