-- ==== Sys2Proof/Machine/Permits.lean ====
section
/-! DEFINITION. The permit, schedule and holiday tables (chapter 1): what the rest of the part asks of them,
and the requests that load and read them. -/

namespace Sys2Proof.Machine

/-! ## Counts and questions -/

/-- The non-FREE slots that hold a credential, in ascending slot order (R4). -/
def State.slotsOf (s : State) (c : Credential) : List (Nat × PermitSlot) :=
  s.permits.filter fun e => e.2.permit.credential == c

/-- A date change zeroes the daily entry count of every slot (R5). -/
def State.zeroCounts (s : State) : State :=
  { s with permits := s.permits.map fun e => (e.1, { e.2 with count := 0 }) }

/-- A slot whose count is raised by one, up to 15 (R6). -/
def PermitSlot.raised (p : PermitSlot) : PermitSlot :=
  { p with count := min (p.count + 1) Config.countMax }

/-- A grant raises the count of its slot (R6). -/
def State.raiseCount (s : State) (n : Nat) : State :=
  { s with permits := changeSlot n PermitSlot.raised s.permits }

/-- A slot to which a count is given back, where it still holds the same credential and work order and its
count is above 0 (R7). R6 has a count that stopped at 15 under allowance 0 stay there until it is next zeroed; that R7
lowers it all the same is a DESIGN CHOICE (notes/assumptions/35.md). -/
def PermitSlot.returned (c : Credential) (workOrder : Nat) (p : PermitSlot) : PermitSlot :=
  if p.permit.credential = c ∧ p.permit.workOrder = workOrder then { p with count := p.count - 1 }
  else p

/-- A NOT_ENTERED removal gives a count back (R7). -/
def State.returnCount (s : State) (n : Nat) (c : Credential) (workOrder : Nat) : State :=
  { s with permits := changeSlot n (PermitSlot.returned c workOrder) s.permits }

/-- Whether the holiday list holds a day (R21). -/
def State.isHoliday (s : State) (day : Nat) : Bool := s.holidays.contains day

/-! ## The permit write window (R11 to R13) -/

/-- OPEN PERMIT WINDOW (R11). The window stands CLOSED when the request is carried out (R14). -/
def ownOpenPermitWindow (payload : List Byte) (s : State) : Reply × State :=
  match payload with
  | [f1, f0, l1, l0] =>
    let first := numberOf [f1, f0]
    let last := numberOf [l1, l0]
    if last < Config.permitSlots ∧ first ≤ last then
      (accept (.windowSlots first last), { s with window := some ⟨first, last⟩ })
    else (refuse .badValue, s)
  | _ => (refuse .badLength, s)

/-- The check of R3 for a record offered for a slot: the refusal, with the lowest slot that already holds
the credential and work order. -/
def State.permitClash (s : State) (n : Nat) (p : PermitRecord) : Option (ResultCode × Option Nat) :=
  let others := (s.slotsOf p.credential).filter fun e => e.1 ≠ n
  match others.find? fun e => e.2.permit.workOrder == p.workOrder with
  | some e => some (.duplicate, some e.1)
  | none =>
    if Config.slotsPerCredential ≤ others.length then some (.credentialLimit, none) else none

/-- A checked record is offered at the write position (R12 steps 4 and 5). -/
def State.offerPermit (s : State) (w : PermitWindow) (p : PermitRecord) : Reply × State :=
  match s.permitClash w.position p with
  | some (code, some held) => (⟨code, .duplicateSlot w.position held⟩, s)
  | some (code, none) => (⟨code, .writePosition w.position⟩, s)
  | none =>
    (accept (.permitWritten w.position p.report (w.position + 1)),
      { s with
        permits := putSlot w.position ⟨.active, p, 0⟩ s.permits
        window := some { w with position := w.position + 1 } })

/-- PERMIT RECORD (R12, R13). -/
def ownPermitRecord (payload : List Byte) (s : State) : Reply × State :=
  match s.window with
  | none => (refuse .windowClosed, s)
  | some w =>
    if w.last < w.position then (⟨.windowEnd, .writePosition w.position⟩, s)
    else
      match payload with
      | [] => (refuse .badLength, s)
      | mark :: record =>
        if mark = 0 then
          (accept (.permitFreed w.position (w.position + 1)),
            { s with
              permits := freeSlot w.position s.permits
              window := some { w with position := w.position + 1 } })
        else if mark = 1 then
          match (permitOfferOf record).bind PermitOffer.checked with
          | some p => s.offerPermit w p
          | none => (⟨.badValue, .writePosition w.position⟩, s)
        else (⟨.badValue, .writePosition w.position⟩, s)

/-! ## Reading and suspending permits (R15, R16) -/

/-- The report of a slot (R15). -/
def slotReport : Option PermitSlot → SlotReport
  | none => .free
  | some p => .held p.state p.permit.report p.count

/-- READ PERMIT (R15). -/
def ownReadPermit (payload : List Byte) (s : State) : Reply × State :=
  let n := numberOf payload
  if n < Config.permitSlots then (accept (.permit (slotReport (s.slot n))), s)
  else (refuse .badValue, s)

/-- SUSPEND PERMIT and RESUME PERMIT: put the named slot into a state (R16). -/
def ownSlotState (target : SlotState) (payload : List Byte) (s : State) : Reply × State :=
  let n := numberOf payload
  if n < Config.permitSlots then
    match s.slot n with
    | none => (refuse .notFound, s)
    | some _ =>
      (accept (.slotState target),
        { s with permits := changeSlot n (fun p => { p with state := target }) s.permits })
  else (refuse .badValue, s)

/-! ## Schedules (R18, R19) -/

/-- WRITE SCHEDULE (R18). -/
def ownWriteSchedule (payload : List Byte) (s : State) : Reply × State :=
  match payload with
  | n :: count :: rest =>
    let windows := windowsOf rest
    if h : n.toNat < 64 then
      if count.toNat ≤ 8 ∧ windows.all WeeklyWindow.allowed then
        (accept (.scheduleHeld n.toNat windows.length),
          { s with schedules := s.schedules.set n.toNat windows h })
      else (refuse .badValue, s)
    else (refuse .badValue, s)
  | _ => (refuse .badLength, s)

/-- READ SCHEDULE (R19). -/
def ownReadSchedule (payload : List Byte) (s : State) : Reply × State :=
  let n := numberOf payload
  if n < 64 then (accept (.schedule (s.schedule n)), s) else (refuse .badValue, s)

/-! ## Holidays (R22 to R24) -/

/-- The date of a three-byte payload, when it is a calendar date (R36). -/
def validDateOf : List Byte → Option Date
  | [y, m, d] => if (dateOf y m d).valid then some (dateOf y m d) else none
  | _ => none

/-- ADD HOLIDAY (R22). -/
def ownAddHoliday (payload : List Byte) (s : State) : Reply × State :=
  match validDateOf payload with
  | none => (refuse .badValue, s)
  | some d =>
    if s.isHoliday d.dayNumber then (accept (.holidayCount s.holidays.length), s)
    else if Config.holidayCapacity ≤ s.holidays.length then (refuse .tableFull, s)
    else
      let days := insertAscending d.dayNumber s.holidays
      (accept (.holidayCount days.length), { s with holidays := days })

/-- REMOVE HOLIDAY (R23). -/
def ownRemoveHoliday (payload : List Byte) (s : State) : Reply × State :=
  match validDateOf payload with
  | none => (refuse .badValue, s)
  | some d =>
    if s.isHoliday d.dayNumber then
      let days := removeFrom d.dayNumber s.holidays
      (accept (.holidayCount days.length), { s with holidays := days })
    else (refuse .notFound, s)

/-- CLEAR HOLIDAYS (R23). -/
def ownClearHolidays (_payload : List Byte) (s : State) : Reply × State :=
  (accept (.holidayCount 0), { s with holidays := [] })

/-- READ HOLIDAYS (R24). -/
def ownReadHolidays (_payload : List Byte) (s : State) : Reply × State :=
  (accept (.holidays (s.holidays.map dateOfDay)), s)

/-! ## The commands -/

def execOpenPermitWindow (r : Req) (s : State) : Host.Outcome State Fault Refusal :=
  .next (takeRequest .openPermitWindow r ownOpenPermitWindow s)

def execPermitRecord (r : Req) (s : State) : Host.Outcome State Fault Refusal :=
  .next (takeRequest .permitRecord r ownPermitRecord s)

def execReadPermit (r : Req) (s : State) : Host.Outcome State Fault Refusal :=
  .next (takeRequest .readPermit r ownReadPermit s)

def execSuspendPermit (r : Req) (s : State) : Host.Outcome State Fault Refusal :=
  .next (takeRequest .suspendPermit r (ownSlotState .suspended) s)

def execResumePermit (r : Req) (s : State) : Host.Outcome State Fault Refusal :=
  .next (takeRequest .resumePermit r (ownSlotState .active) s)

def execWriteSchedule (r : Req) (s : State) : Host.Outcome State Fault Refusal :=
  .next (takeRequest .writeSchedule r ownWriteSchedule s)

def execReadSchedule (r : Req) (s : State) : Host.Outcome State Fault Refusal :=
  .next (takeRequest .readSchedule r ownReadSchedule s)

def execAddHoliday (r : Req) (s : State) : Host.Outcome State Fault Refusal :=
  .next (takeRequest .addHoliday r ownAddHoliday s)

def execRemoveHoliday (r : Req) (s : State) : Host.Outcome State Fault Refusal :=
  .next (takeRequest .removeHoliday r ownRemoveHoliday s)

def execClearHolidays (r : Req) (s : State) : Host.Outcome State Fault Refusal :=
  .next (takeRequest .clearHolidays r ownClearHolidays s)

def execReadHolidays (r : Req) (s : State) : Host.Outcome State Fault Refusal :=
  .next (takeRequest .readHolidays r ownReadHolidays s)

end Sys2Proof.Machine
end

