-- ==== Sys2Proof/Machine/Channel.lean ====
section
/-! DEFINITION. What an event does to one door channel taken alone (chapter 7): its state, timers, lock and
sounder. What the event does to the occupancy table and the record queue stands in Doors.lean. -/

namespace Sys2Proof.Machine

/-! ## Lock levels (R137) -/

def LockType.releaseLevel : LockType → LockLevel
  | .failSecure => .energised
  | .failSafe => .deEnergised

def LockType.secureLevel : LockType → LockLevel
  | .failSecure => .deEnergised
  | .failSafe => .energised

/-! ## Timers (R126) -/

/-- The moment a number of seconds after another. -/
def secondsAfter (now seconds : Nat) : Nat := now + seconds * Config.second

/-- The release timer (re)starts and the lock goes to its release level (R127, R137). -/
def DoorChannel.startRelease (d : DoorChannel) (now : Nat) : DoorChannel :=
  { d with
    release := some (secondsAfter now d.settings.releaseTime)
    lock := d.settings.lockType.releaseLevel }

/-- The release timer stops and the lock goes to its secure level (R137). -/
def DoorChannel.endRelease (d : DoorChannel) : DoorChannel :=
  { d with release := none, lock := d.settings.lockType.secureLevel }

/-- The egress timer (re)starts with the release time (R129). -/
def DoorChannel.startEgress (d : DoorChannel) (now : Nat) : DoorChannel :=
  { d with egress := some (secondsAfter now d.settings.releaseTime) }

/-- The open allowance (re)starts (R131). -/
def DoorChannel.startAllowance (d : DoorChannel) (now : Nat) : DoorChannel :=
  { d with allowance := some (secondsAfter now d.settings.openAllowance) }

/-- A closed door's state: RELEASED while the release or egress timer runs, else SECURE (R126). -/
def DoorChannel.closedState (d : DoorChannel) : DoorState :=
  if d.release.isSome || d.egress.isSome then .released else .secure

/-- A door in RELEASED becomes SECURE when neither timer runs any more; every other state stays (R128,
R130). -/
def DoorChannel.settleReleased (d : DoorChannel) : DoorChannel :=
  if d.state = .released then { d with state := d.closedState } else d

/-- The sounder when the door enters HELD or FORCED (R138). -/
def DoorChannel.alarmSounder (d : DoorChannel) : Sounder :=
  if d.settings.sounderOnAlarm then .on else .off

/-! ## Release requests (R127) -/

/-- The answer to a release request (R61, R127). -/
inductive ReleaseAnswer where
  | taken
  | busy
  | takenOpen
  deriving DecidableEq, Repr

/-- A release request for `n` entries. The references themselves join the list as the entries are placed, in
the same event (R136). In IDLE no release request reaches the channel (R127); the model leaves the channel as
it is and answers BUSY (notes/assumptions/12.md). -/
def DoorChannel.requestRelease (d : DoorChannel) (now n : Nat) : ReleaseAnswer × DoorChannel :=
  match d.state with
  | .idle => (.busy, d)
  | .secure | .released =>
    if d.provisional.length + n ≤ Config.referencesPerDoor then
      (.taken, { d.startRelease now with state := .released })
    else (.busy, d)
  | .opened => (.takenOpen, (d.startRelease now).startAllowance now)
  | .held | .forced => (.takenOpen, d.startRelease now)

/-- A re-grant restarts the running release timer and changes nothing else (R58, R127). -/
def DoorChannel.restartRelease (d : DoorChannel) (now : Nat) : DoorChannel :=
  if d.release.isSome then { d with release := some (secondsAfter now d.settings.releaseTime) } else d

/-! ## Expiries, openings and closings -/

/-- The release timer runs out; the provisional list is handed over apart from this (R128). -/
def DoorChannel.releaseExpired (d : DoorChannel) : DoorChannel := d.endRelease.settleReleased

/-- The egress timer runs out (R130). -/
def DoorChannel.egressExpired (d : DoorChannel) : DoorChannel :=
  { d with egress := none }.settleReleased

/-- A REX press in any state but IDLE (R129): the egress timer (re)starts, and SECURE becomes RELEASED. -/
def DoorChannel.pressed (d : DoorChannel) (now : Nat) : DoorChannel :=
  let d1 := d.startEgress now
  if d1.state = .secure then { d1 with state := .released } else d1

/-- An authorised opening: relock-on-open ends a running release, the open allowance starts, the door is
OPEN (R131). -/
def DoorChannel.openedAuthorised (d : DoorChannel) (now : Nat) : DoorChannel :=
  let d1 := if d.settings.relockOnOpen && d.release.isSome then d.endRelease else d
  { d1.startAllowance now with state := .opened }

/-- An opening from SECURE (R131). -/
def DoorChannel.openedForced (d : DoorChannel) : DoorChannel :=
  { d with state := .forced, sounder := d.alarmSounder }

/-- A closing (R132). -/
def DoorChannel.closed (d : DoorChannel) : DoorChannel :=
  match d.state with
  | .opened => { d with state := d.closedState, allowance := none }
  | .held => { d with state := d.closedState, sounder := .off }
  | .forced => { d.endRelease with egress := none, state := .secure, sounder := .off }
  | .idle | .secure | .released => d

/-- The open allowance runs out: OPEN becomes HELD (R133). -/
def DoorChannel.allowanceExpired (d : DoorChannel) : DoorChannel :=
  if d.state = .opened then
    { d with allowance := none, state := .held, sounder := d.alarmSounder }
  else { d with allowance := none }

/-! ## Coming into and going out of service -/

/-- A door that has been IDLE settles from its door-position level; an unclassified input settles as closed
(R125). -/
def DoorChannel.settle (d : DoorChannel) (level : Level) (now : Nat) : DoorChannel :=
  let d1 := { d with lock := d.settings.lockType.secureLevel }
  match level with
  | .active => { d1.startAllowance now with state := .opened }
  | .normal | .unclassified => { d1 with state := d1.closedState }

/-- Entry into IDLE, with the egress timer left as it is (R124, R126). -/
def DoorChannel.park (d : DoorChannel) : DoorChannel :=
  { d with
    state := .idle
    release := none
    allowance := none
    provisional := []
    sounder := .off
    lock := d.settings.parkLevel }

/-- STOP and reset: IDLE with every timer stopped (R142). -/
def DoorChannel.stopAll (d : DoorChannel) : DoorChannel :=
  { d.park with egress := none }

/-- Entry into LOCKDOWN: the release is cancelled, and the state follows from the timers (R124). The
provisional list is handed over apart from this. An IDLE door has nothing to act on (R123). -/
def DoorChannel.lockDown (d : DoorChannel) : DoorChannel :=
  if d.state = .idle then d else d.endRelease.settleReleased

/-- A revocation that empties the provisional list cancels the release (R136). -/
def DoorChannel.cancelIfEmpty (d : DoorChannel) : DoorChannel :=
  if d.provisional.isEmpty && d.release.isSome && d.state ≠ .idle then d.endRelease.settleReleased
  else d

/-- Whether the channel is one that settles at START (R125, R142): in service, in NORMAL or LOCKDOWN. -/
def DoorChannel.serves (d : DoorChannel) : Bool :=
  d.settings.inService && d.mode != .outOfService

/-- Whether the door stands in HELD or FORCED (R175). -/
def DoorChannel.inAlarm (d : DoorChannel) : Bool :=
  d.state == .held || d.state == .forced

end Sys2Proof.Machine
end

