-- ==== Sys2Proof/Machine/Occupancy.lean ====
section
/-! DEFINITION. The occupancy table (chapter 5) and the supervision of rooms (R86, R87): finding, placing,
confirming and removing entries, the overstay check, and the requests on rooms. -/

namespace Sys2Proof.Machine

/-! ## Questions (R99) -/

/-- The entry of a credential in one room's list. -/
def Room.entryOf (x : Room) (c : Credential) : Option Entry :=
  x.entries.find? fun e => e.credential == c

/-- The entry of a credential and its room, in any room (R57, R99). -/
def State.findEntry (s : State) (c : Credential) : Option (RoomNo × Entry) :=
  sixteen.findSome? fun r => ((s.room r).entryOf c).map fun e => (r, e)

/-- The number of entries of a room (R92). -/
def State.entryCount (s : State) (r : RoomNo) : Nat := (s.room r).entries.length

/-- The entries of all rooms together. -/
def State.totalEntries (s : State) : Nat := (sixteen.map s.entryCount).sum

/-- The free count of the pool (R92). -/
def State.freeCount (s : State) : Nat := Config.poolSize - s.totalEntries

/-- Whether an entry is CONFIRMED and of a role. -/
def Entry.confirmedAs (role : Role) (e : Entry) : Bool := e.state == .confirmed && e.role == role

/-- The CONFIRMED entries of a role in a room. -/
def Room.confirmedCount (x : Room) (role : Role) : Nat := x.entries.countP (Entry.confirmedAs role)

/-- Whether a room holds a CONFIRMED entry of role ESCORT (R60, R99). -/
def State.escortInside (s : State) (r : RoomNo) : Bool :=
  (s.room r).entries.any (Entry.confirmedAs .escort)

/-- Whether the credential holds a PROVISIONAL entry in a room, granted under a slot (R52, R99). -/
def State.provisionalUnder (s : State) (c : Credential) (r : RoomNo) (slot : Nat) : Bool :=
  (s.room r).entries.any fun e => e.credential == c && e.state == .provisional && e.slot == slot

/-- The PROVISIONAL entry that a reference in a door's list names, and its room (R94). -/
def State.referenced (s : State) (k : DoorNo) (c : Credential) : Option (RoomNo × Entry) :=
  (s.findEntry c).filter fun re => re.2.state == .provisional && re.2.door == k

/-! ## Supervision (R86) -/

/-- Whether a room is unescorted (R86). -/
def Room.isUnescorted (x : Room) : Bool :=
  x.settings.loneBarred && x.entries.any (Entry.confirmedAs .contractor) &&
    !x.entries.any (Entry.confirmedAs .escort)

/-- The supervision check of a room (R86). -/
def State.supervise (s : State) (r : RoomNo) : State :=
  let x := s.room r
  match x.supervision, x.isUnescorted with
  | .clear, true =>
    (s.setRoom r { x with supervision := .unescorted }).submit
      { kind := .unescorted, room := some r, detail := some (x.confirmedCount .contractor) }
  | .unescorted, false =>
    (s.setRoom r { x with supervision := .clear }).submit
      { kind := .escortRestored, room := some r, detail := some (x.confirmedCount .escort) }
  | _, _ => s

/-- The supervision checks of several rooms, in order (R86). -/
def State.superviseAll (s : State) (rooms : List RoomNo) : State := rooms.foldl State.supervise s

/-! ## Placing, changing and removing entries -/

/-- An entry joins the end of a room's list (R92, R93). -/
def State.placeEntry (s : State) (r : RoomNo) (e : Entry) : State :=
  s.modifyRoom r fun x => { x with entries := x.entries ++ [e] }

/-- Change the entry of a credential where it stands (R92). -/
def State.changeEntry (s : State) (r : RoomNo) (c : Credential) (f : Entry → Entry) : State :=
  s.modifyRoom r fun x =>
    { x with entries := x.entries.map fun e => if e.credential = c then f e else e }

/-- A reference joins the end of a door's provisional list (R136). -/
def State.addReference (s : State) (k : DoorNo) (c : Credential) : State :=
  s.modifyDoor k fun d => { d with provisional := d.provisional ++ [c] }

/-- A reference leaves a door's provisional list (R136). -/
def State.withdrawReference (s : State) (k : DoorNo) (c : Credential) : State :=
  s.modifyDoor k fun d => { d with provisional := removeFrom c d.provisional }

/-- An entry leaves its room's list for the pool, and a PROVISIONAL one its door's list (R96). -/
def State.dropEntry (s : State) (r : RoomNo) (e : Entry) : State :=
  let s1 := s.modifyRoom r fun x =>
    { x with entries := x.entries.filter fun y => y.credential ≠ e.credential }
  match e.state with
  | .provisional => s1.withdrawReference e.door e.credential
  | .confirmed => s1

/-- The record of a removal: the room, the entry door, the credential, the slot and the work order (R96). For EXIT,
`State.exitRemoval` adds the reader (R66). -/
def removalReport (kind : RecordKind) (r : RoomNo) (e : Entry) : Report :=
  { kind := kind, door := some e.door, room := some r, credential := some e.credential
    slot := some e.slot, workOrder := some e.workOrder }

/-- Remove an entry with its record (R96). -/
def State.removeEntry (s : State) (kind : RecordKind) (r : RoomNo) (e : Entry) : State :=
  (s.dropEntry r e).submit (removalReport kind r e)

/-- Remove a PROVISIONAL entry with NOT_ENTERED and hand its count back (R96, R7). -/
def State.notEntered (s : State) (r : RoomNo) (e : Entry) : State :=
  (s.removeEntry .notEntered r e).returnCount e.slot e.credential e.workOrder

/-! ## What the door channels hand over -/

/-- One reference of an ended release: its entry is removed NOT_ENTERED (R97). -/
def State.dropReference (k : DoorNo) (s : State) (c : Credential) : State :=
  match s.referenced k c with
  | some (r, e) => s.notEntered r e
  | none => s

/-- The rooms of the entries that a door's references name. -/
def State.referencedRooms (s : State) (k : DoorNo) : List RoomNo :=
  (s.door k).provisional.filterMap fun c => (s.referenced k c).map Prod.fst

/-- The list of a door is emptied. -/
def State.clearReferences (s : State) (k : DoorNo) : State :=
  s.modifyDoor k fun d => { d with provisional := [] }

/-- A door hands over its whole list at the end or cancellation of a release: each entry named is removed
NOT_ENTERED in reference order, the list is emptied, and the rooms concerned are checked (R97, R98, R108). -/
def State.dropReferences (s : State) (k : DoorNo) : State :=
  (((s.door k).provisional.foldl (State.dropReference k) s).clearReferences k).superviseAll
    (s.referencedRooms k)

/-- One reference at an opening: its entry becomes CONFIRMED with the stamp of the reading (R95). -/
def State.confirmReference (k : DoorNo) (s : State) (c : Credential) : State :=
  match s.referenced k c with
  | some (r, _) =>
    s.changeEntry r c fun e => { e with state := .confirmed, confirmed := s.clock.minuteStamp }
  | none => s

/-- A door hands over its whole list at an opening during its release: each entry named is confirmed, the
list is emptied, and the rooms concerned are checked (R95). Where one SCANNER_PASS accepts the openings of two doors
of one room, the room is checked after each opening (R95, R131) and not once after the pass (R86, R145, R149):
DESIGN CHOICE (notes/assumptions/33.md). -/
def State.confirmReferences (s : State) (k : DoorNo) : State :=
  (((s.door k).provisional.foldl (State.confirmReference k) s).clearReferences k).superviseAll
    (s.referencedRooms k)

/-! ## Overstay (R101, R102) -/

/-- Whether an entry is marked at a minute signal of absolute minute `a` (R101). -/
def Entry.overstays (grace a : Nat) (e : Entry) : Bool :=
  match e.state, e.entitled with
  | .confirmed, some u => !e.overstay && decide (u + grace ≤ a)
  | _, _ => false

/-- The OVERSTAY record of an entry (R102). -/
def overstayReport (r : RoomNo) (e : Entry) : Report :=
  { removalReport .overstay r e with detail := e.entitled }

/-- An entry after the check: marked when it overstays (R102). -/
def Entry.checked (grace a : Nat) (e : Entry) : Entry :=
  if e.overstays grace a then { e with overstay := true } else e

/-- The overstay check of one room (R101). -/
def State.overstayRoom (a : Nat) (s : State) (r : RoomNo) : State :=
  let grace := (s.room r).settings.grace
  let due := (s.room r).entries.filter (Entry.overstays grace a)
  (s.modifyRoom r fun x => { x with entries := x.entries.map (Entry.checked grace a) }).submitAll
    (due.map (overstayReport r))

/-- A minute signal reaches the occupancy table with its reading (R27, R101). -/
def State.minuteSignal (s : State) (reading : Clock) : State :=
  match reading.state with
  | .set => sixteen.foldl (State.overstayRoom reading.absoluteMinute) s
  | .unset => s

/-! ## Requests on rooms -/

/-- SET ROOM (R90). -/
def ownSetRoom (payload : List Byte) (s : State) : Reply × State :=
  if s.run = .running then (refuse .notStopped, s)
  else
    match payload with
    | [] => (refuse .badLength, s)
    | n :: fields =>
      match sixteenOf n, roomSettingsOf fields with
      | some r, some x =>
        if (!x.inUse && decide (0 < s.entryCount r)) || decide (x.cap < s.entryCount r) then
          (refuse .roomOccupied, s)
        else
          (accept (.roomStored r x),
            (s.modifyRoom r fun y => { y with settings := x }).supervise r)
      | _, _ => (refuse .badValue, s)

/-- READ ROOM (R105). -/
def ownReadRoom (payload : List Byte) (s : State) : Reply × State :=
  match payload with
  | [n, start] =>
    match sixteenOf n with
    | some r =>
      (accept (.room ⟨r, (s.room r).supervision, s.entryCount r, s.freeCount,
        ((s.room r).entries.drop start.toNat).take 8⟩), s)
    | none => (refuse .badValue, s)
  | _ => (refuse .badLength, s)

/-- The flags of an entry as the detail number of OCCUPANT_CLEARED (R106). -/
def Entry.flags (e : Entry) : Nat :=
  (if e.overstay then 1 else 0) + (if e.revokedInside then 2 else 0)

/-- An entry is cleared by the head-end (R106, R107). -/
def State.clearEntry (r : RoomNo) (s : State) (e : Entry) : State :=
  (s.dropEntry r e).submit { removalReport .occupantCleared r e with detail := some e.flags }

/-- CLEAR OCCUPANT (R106). -/
def ownClearOccupant (payload : List Byte) (s : State) : Reply × State :=
  match credentialOf payload with
  | none => (refuse .badLength, s)
  | some c =>
    if c = 0 then (refuse .badValue, s)
    else
      match s.findEntry c with
      | none => (refuse .notFound, s)
      | some (r, e) => (accept (.occupantCleared r e.state), (s.clearEntry r e).supervise r)

/-- CLEAR ROOM (R107). -/
def ownClearRoom (payload : List Byte) (s : State) : Reply × State :=
  match payload with
  | [n] =>
    match sixteenOf n with
    | some r =>
      let entries := (s.room r).entries
      (accept (.roomCleared entries.length), (entries.foldl (State.clearEntry r) s).supervise r)
    | none => (refuse .badValue, s)
  | _ => (refuse .badLength, s)

def execSetRoom (r : Req) (s : State) : Host.Outcome State Fault Refusal :=
  .next (takeRequest .setRoom r ownSetRoom s)

def execReadRoom (r : Req) (s : State) : Host.Outcome State Fault Refusal :=
  .next (takeRequest .readRoom r ownReadRoom s)

def execClearOccupant (r : Req) (s : State) : Host.Outcome State Fault Refusal :=
  .next (takeRequest .clearOccupant r ownClearOccupant s)

def execClearRoom (r : Req) (s : State) : Host.Outcome State Fault Refusal :=
  .next (takeRequest .clearRoom r ownClearRoom s)

end Sys2Proof.Machine
end

