-- ==== Sys2Proof/Machine/Clock.lean ====
section
/-! DEFINITION. The calendar clock's own event and requests (chapter 2): the second tick (R26, R28), the
signals it gives (R27), SET TIME (R30, R31), MINUTE MARK (R32, R33) and READ TIME (R34). -/

namespace Sys2Proof.Machine

/-! ## Signals and the timebase -/

/-- The timebase restarts: its next tick is taken one second from now (R26). -/
def State.restartTimebase (s : State) : State := { s with nextTick := s.now + Config.second }

/-- The date-change signal, given when the clock's date differs from what it was: the permit table zeroes
its counts (R5, R27). -/
def State.dateChange (s : State) (old : Date) : State :=
  if s.clock.date = old then s else s.zeroCounts

/-! ## SECOND_TICK (R26 to R28) -/

/-- The clock steps on by one second, and the next tick falls one second after this one (R26). -/
def State.tickClock (s : State) : State :=
  { s.reach s.nextTick with clock := s.clock.tick, nextTick := s.nextTick + Config.second }

/-- A tick that ends the century queues CLOCK_UNSET, unstamped since the clock then stands UNSET (R28). -/
def State.reportUnset (s : State) (old : ClockState) : State :=
  match old, s.clock.state with
  | .set, .unset => s.submit { kind := .clockUnset }
  | _, _ => s

/-- SECOND_TICK (R26): the clock steps, the end of the century is recorded (R28), and a new minute and a
change of date are signalled (R27). -/
def execSecondTick (s : State) : Host.Outcome State Fault Refusal :=
  let s1 := s.tickClock.reportUnset s.clock.state
  let s2 := if s.clock.second < 59 then s1 else s1.minuteSignal s1.clock
  .next (s2.dateChange s.clock.date)

/-! ## SET TIME (R30, R31) -/

/-- The detail number of CLOCK_SET: the old time as an absolute second, absent from an UNSET clock (R31). -/
def Clock.setDetail (old : Clock) : Option Nat :=
  match old.state with
  | .set => some old.absoluteSecond
  | .unset => none

/-- The clock is stepped to a time, with its date-change signal and its record (R31). -/
def State.stepTime (s : State) (new : Clock) : State :=
  ((State.restartTimebase { s with clock := new }).dateChange s.clock.date).submit
    { kind := .clockSet, detail := s.clock.setDetail }

/-- SET TIME (R30, R31). -/
def ownSetTime (payload : List Byte) (s : State) : Reply × State :=
  match timeOf payload with
  | none => (refuse .badLength, s)
  | some new => if new.valid then (accept (.time new), s.stepTime new) else (refuse .badValue, s)

/-! ## MINUTE MARK (R32, R33) -/

/-- Whether a mark moves a SET clock on to the next whole minute (R32, R33). -/
def Clock.marksForward (c : Clock) : Bool := decide (30 ≤ c.second) && !c.lastMinute

/-- A SET clock after a mark: rounded to the nearer whole minute (R32), but for the last half minute of the
century, which goes to its last second (R33). -/
def Clock.marked (c : Clock) : Clock :=
  if c.second < 30 then { c with second := 0 }
  else if c.lastMinute then { c with second := 59 }
  else c.nextMinute

/-- A mark is carried out on a SET clock, with its signals (R32, R33). -/
def State.markMinute (s : State) : State :=
  let s1 := State.restartTimebase { s with clock := s.clock.marked }
  let s2 := if s.clock.marksForward then s1.minuteSignal s1.clock else s1
  s2.dateChange s.clock.date

/-- MINUTE MARK (R32, R33). -/
def ownMinuteMark (_payload : List Byte) (s : State) : Reply × State :=
  match s.clock.state with
  | .unset => (refuse .clockUnset, s)
  | .set => (accept (.time s.clock.marked), s.markMinute)

/-! ## READ TIME (R34) -/

/-- What READ TIME returns of a reading (R34, R37). -/
def Clock.report (c : Clock) : TimeReport where
  clock := c
  weekday := c.weekday
  dayNumber := c.dayNumber
  minuteOfWeek := c.minuteOfWeek
  absoluteMinute := c.absoluteMinute

/-- READ TIME (R34). -/
def ownReadTime (_payload : List Byte) (s : State) : Reply × State :=
  (accept (.timeReading s.clock.report), s)

def execSetTime (r : Req) (s : State) : Host.Outcome State Fault Refusal :=
  .next (takeRequest .setTime r ownSetTime s)

def execMinuteMark (r : Req) (s : State) : Host.Outcome State Fault Refusal :=
  .next (takeRequest .minuteMark r ownMinuteMark s)

def execReadTime (r : Req) (s : State) : Host.Outcome State Fault Refusal :=
  .next (takeRequest .readTime r ownReadTime s)

end Sys2Proof.Machine
end

