-- ==== Sys2Proof/Machine/Readers.lean ====
section
/-! DEFINITION. The reader loop controller (chapter 9) short of the replies: assignments (R156), poll rounds
(R157, R158), indications (R164), the changes of a reader's state (R160), and READ READERS. -/

namespace Sys2Proof.Machine

/-! ## Assignments (R156) -/

/-- The direction in which a door's settings name a reader, none when they do not or the door is not in
service (R156). -/
def DoorSettings.direction (x : DoorSettings) (a : ReaderNo) : Option Direction :=
  if x.inService then
    if x.entryReader = some a then some .entry
    else if x.exitReader = some a then some .exit
    else none
  else none

/-- The assignment of a reader: the lowest-numbered in-service channel that names it, with its direction
(R156). -/
def State.assignment (s : State) (a : ReaderNo) : Option (DoorNo × Direction) :=
  sixteen.findSome? fun k => ((s.door k).settings.direction a).map fun dir => (k, dir)

/-- The 31 readers, in address order. -/
def allReaders : List ReaderNo := List.finRange 31

/-- A report about a reader, with the door and room of its assignment (R160, R161). -/
def State.readerReport (s : State) (kind : RecordKind) (a : ReaderNo) : Report :=
  match s.assignment a with
  | some (k, _) => { kind := kind, reader := some a, door := some k, room := some (s.roomOf k) }
  | none => { kind := kind, reader := some a }

/-! ## Indications (R164) -/

/-- Post an indication for a reader: it replaces what is pending there, and is discarded for an OFFLINE or
unassigned reader (R164). -/
def State.post (s : State) (a : ReaderNo) (ind : Indication) : State :=
  match s.assignment a, (s.reader a).state with
  | some _, .pending | some _, .online => s.modifyReader a fun x => { x with pending := some ind }
  | _, _ => s

/-- Post an indication for the entry reader of a door. -/
def State.postAtDoor (s : State) (k : DoorNo) (ind : Indication) : State :=
  match (s.door k).settings.entryReader with
  | some a => s.post a ind
  | none => s

/-! ## Poll rounds (R157, R158) -/

/-- Whether a reader is due in the current round (R157). -/
def State.due (s : State) (a : ReaderNo) : Bool :=
  (s.assignment a).isSome && ((s.reader a).state != .offline || s.round == 0)

/-- The assigned addresses, in ascending order (R156). -/
def State.assignedReaders (s : State) : List ReaderNo :=
  allReaders.filter fun a => (s.assignment a).isSome

/-- Whether an address takes part in the round in progress. One that was given its assignment after the round
began does so by R157 and waits for the next round by R121: a free value (notes/assumptions/15.md). -/
def State.inRound (s : State) (a : ReaderNo) : Bool :=
  s.roundReaders.contains a || !Config.assignmentsWaitForRound

/-- Whether a reader's address lies above the address last polled in the round. -/
def above (last : Option ReaderNo) (a : ReaderNo) : Bool :=
  match last with
  | none => true
  | some b => decide (b < a)

/-- The next reader to poll in the current round (R121, R157). -/
def State.nextDue (s : State) : Option ReaderNo :=
  allReaders.find? fun a => above s.lastPolled a && s.due a && s.inRound a

/-- Whether any address is assigned (R157). -/
def State.anyAssigned (s : State) : Bool := allReaders.any fun a => (s.assignment a).isSome

/-- Send a poll: it carries the reader's pending indication, which becomes none (R158). -/
def State.sendPoll (s : State) (a : ReaderNo) : State :=
  { s.modifyReader a (fun x => { x with pending := none }) with
    loop := .poll a (s.reader a).pending (s.now + Config.replyWindow)
    lastPolled := some a }

/-- A quiet interval of one reply window (R157). -/
def State.beQuiet (s : State) : State :=
  { s with loop := .quiet (s.now + Config.replyWindow) }

/-- The round ends: the counter is raised, and a new round begins with no address polled (R157). It reads the
assignments anew (R121). -/
def State.endRound (s : State) : State :=
  { s with round := (s.round + 1) % 8, lastPolled := none, roundReaders := s.assignedReaders }

/-- Begin a round: poll its first reader, or spend it as a quiet interval (R157). -/
def State.beginRound (s : State) : State :=
  match s.nextDue with
  | some a => s.sendPoll a
  | none => s.beQuiet

/-- Choose what the loop does next when a poll has ended (R157). While no address is assigned the loop is
silent and the counter holds. A round in which nothing was polled and nothing is due is spent quietly. -/
def State.advanceLoop (s : State) : State :=
  if s.anyAssigned then
    match s.nextDue, s.lastPolled with
    | some a, _ => s.sendPoll a
    | none, none => s.beQuiet
    | none, some _ => s.endRound.beginRound
  else { s with loop := .silent }

/-- Polling starts again with a new round (R166, R173). -/
def State.restartLoop (s : State) : State :=
  State.advanceLoop { s with round := 0, lastPolled := none, roundReaders := s.assignedReaders, loop := .silent }

/-- A loop that was silent takes up polling once an address is assigned (R157): DEDUCED (notes/assumptions/15.md).
It goes on with the round that it fell silent in, over the addresses now assigned: DESIGN CHOICE
(notes/assumptions/32.md). -/
def State.wakeLoop (s : State) : State :=
  match s.loop with
  | .silent => State.advanceLoop { s with roundReaders := s.assignedReaders }
  | _ => s

/-! ## Reader states (R160) -/

/-- A poll ends with no reply or a check failure: the miss count is raised, and the eighth miss makes the
reader OFFLINE, discards its pending indication and queues READER_OFFLINE (R160). -/
def State.readerMissed (s : State) (a : ReaderNo) : State :=
  let x := s.reader a
  let misses := min (x.misses + 1) 8
  if misses = 8 ∧ x.state ≠ .offline then
    (s.setReader a { x with misses := 8, state := .offline, pending := none }).submit
      (s.readerReport .readerOffline a)
  else s.setReader a { x with misses := misses }

/-- A poll ends with a good reply: the miss count is 0 and the reader ONLINE, with READER_ONLINE when it was
OFFLINE (R160). -/
def State.readerHeard (s : State) (a : ReaderNo) : State :=
  let x := s.reader a
  let s1 := s.setReader a { x with misses := 0, state := .online }
  if x.state = .offline then s1.submit (s.readerReport .readerOnline a) else s1

/-- The tamper report of a good reply: a change queues READER_TAMPER or READER_TAMPER_END (R161). -/
def State.readerTamper (s : State) (a : ReaderNo) (tamper : Option Bool) : State :=
  match tamper with
  | none => s
  | some t =>
    if t = (s.reader a).tamper then s
    else
      let s1 := s.modifyReader a fun x => { x with tamper := t }
      if t then s1.submit (s.readerReport .readerTamper a)
      else s1.submit { s.readerReport .readerTamperEnd a with detail := some 0 }

/-! ## READ READERS (R165) -/

/-- What READ READERS returns of one address (R165). -/
def State.readerEntry (s : State) (a : ReaderNo) : ReaderReport :=
  let x := s.reader a
  { assignment := s.assignment a
    state := x.state
    misses := x.misses
    tamper := x.tamper
    pending := x.pending
    last := x.last.map fun l => (l.credential, (s.now - l.moment) / Config.second) }

/-- READ READERS (R165). -/
def ownReadReaders (payload : List Byte) (s : State) : Reply × State :=
  match payload with
  | [f, l] =>
    match readerOf f, readerOf l with
    | some first, some last =>
      if first ≤ last then
        (accept (.readers s.round s.params.repeatInterval
          ((allReaders.filter fun a => decide (first ≤ a) && decide (a ≤ last)).map s.readerEntry)), s)
      else (refuse .badValue, s)
    | _, _ => (refuse .badValue, s)
  | _ => (refuse .badLength, s)

def execReadReaders (r : Req) (s : State) : Host.Outcome State Fault Refusal :=
  .next (takeRequest .readReaders r ownReadReaders s)

end Sys2Proof.Machine
end

