-- ==== Sys2Proof/Machine/Pairing.lean ====
section
/-! DEFINITION. Pairing records and how they end other than by a completion (chapter 4.2, 4.5 to 4.7):
withdrawal, expiry, cancellation and the revocation of a member. -/

namespace Sys2Proof.Machine

/-- The members of a record, escort first and then the contractors in list order (R78). -/
def PairingRecord.members (p : PairingRecord) : List Member := p.escort.toList ++ p.contractors

/-- Whether a credential is a member of a record (R75). -/
def PairingRecord.has (p : PairingRecord) (c : Credential) : Bool :=
  p.members.any fun m => m.credential == c

/-- A record without a member; none when no member is left (R71, R85). -/
def PairingRecord.without (p : PairingRecord) (c : Credential) : Option PairingRecord :=
  let q := { p with
    escort := p.escort.filter fun m => m.credential != c
    contractors := p.contractors.filter fun m => m.credential != c }
  if q.members.isEmpty then none else some q

/-- The number of open records (R70). -/
def State.openPairings (s : State) : Nat := sixteen.countP fun k => (s.pairing k).isSome

/-- The door whose record a credential is a member of, with the record and the member (R71). -/
def State.membership (s : State) (c : Credential) : Option (DoorNo × PairingRecord × Member) :=
  sixteen.findSome? fun k =>
    (s.pairing k).bind fun p =>
      (p.members.find? fun m => m.credential == c).map fun m => (k, p, m)

/-- The record of a credential's denial at a door (R65). -/
def State.denial (s : State) (k : DoorNo) (reader : Option ReaderNo) (c : Credential) (reason : Reason)
    (permit : Option (Nat × Nat)) : Report :=
  { kind := .entryDenied, door := some k, room := some (s.roomOf k), reader := reader
    credential := some c, slot := permit.map Prod.fst, workOrder := permit.map Prod.snd
    reason := some reason }

/-- The denial of a waiting member, with the slot and work order it arrived under and the door's entry
reader (R65, R82, R83). -/
def State.memberDenial (s : State) (k : DoorNo) (reason : Reason) (m : Member) : Report :=
  s.denial k (s.door k).settings.entryReader m.credential reason (some (m.slot, m.workOrder))

/-- Every member of a door's record is denied with a reason, and the record closes (R82, R83, R84). -/
def State.denyMembers (s : State) (k : DoorNo) (reason : Reason) : State :=
  match s.pairing k with
  | none => s
  | some p => (s.submitAll (p.members.map (s.memberDenial k reason))).setPairing k none

/-- A record is cancelled: its members are denied PAIRING_CANCELLED and the entry reader is told (R83). -/
def State.cancelPairing (s : State) (k : DoorNo) : State :=
  match s.pairing k with
  | none => s
  | some _ =>
    (s.denyMembers k .pairingCancelled).postAtDoor k (.deny .pairingCancelled)

/-- A credential leaves the record it is a member of, with a PAIRING_ABANDONED record (R71). -/
def State.withdrawMember (s : State) (c : Credential) : State :=
  match s.membership c with
  | none => s
  | some (k, p, m) =>
    (s.setPairing k (p.without c)).submit
      { kind := .pairingAbandoned, door := some k, room := some (s.roomOf k)
        credential := some c, slot := some m.slot, workOrder := some m.workOrder }

/-- A revoked credential leaves the record it is a member of, denied REVOKED; the record names no reader
(R85). -/
def State.revokeMember (s : State) (c : Credential) : State :=
  match s.membership c with
  | none => s
  | some (k, p, m) =>
    (s.setPairing k (p.without c)).submit (s.denial k none c .revoked (some (m.slot, m.workOrder)))

/-- PAIRING_DEADLINE_EXPIRY (R82). A record that has closed has no deadline, and nothing happens. -/
def execPairingDeadlineExpiry (k : DoorNo) (s : State) : Host.Outcome State Fault Refusal :=
  match s.pairing k with
  | none => .next s
  | some p =>
    .next (((s.reach p.deadline).denyMembers k .pairingTimeout).postAtDoor k
      (.deny .pairingTimeout))

end Sys2Proof.Machine
end

