-- ==== Sys2Proof/Machine/Doors.lean ====
section
/-! DEFINITION. The door channels with all that their events reach (chapter 7): openings, closings, presses
and expiries, mode changes, going IDLE, and the requests on doors. -/

namespace Sys2Proof.Machine

/-! ## Records (R143) -/

/-- A record of a door, with its room (R143). -/
def State.doorReport (s : State) (kind : RecordKind) (k : DoorNo) (detail : Option Nat) : Report :=
  { kind := kind, door := some k, room := some (s.roomOf k), detail := detail }

/-- The end record of a door that stands in HELD or FORCED, with its detail number (R143). -/
def State.alarmEnd (s : State) (k : DoorNo) (detail : Nat) : List Report :=
  match (s.door k).state with
  | .held => [s.doorReport .doorHeldEnd k (some detail)]
  | .forced => [s.doorReport .doorForcedEnd k (some detail)]
  | .idle | .secure | .released | .opened => []

/-! ## Events at the door -/

/-- A release request at a door (R127). -/
def State.requestRelease (s : State) (k : DoorNo) (n : Nat) : ReleaseAnswer × State :=
  let answer := (s.door k).requestRelease s.now n
  (answer.1, s.setDoor k answer.2)

/-- An opening that finds the door authorised: the list is handed over and confirmed, and the door is OPEN
(R131). -/
def State.openAuthorised (s : State) (k : DoorNo) : State :=
  (s.confirmReferences k).modifyDoor k fun d => d.openedAuthorised s.now

/-- An opening (R131). In OPEN, HELD and FORCED it cannot be taken, and in IDLE it is not acted on. -/
def State.doorOpens (s : State) (k : DoorNo) : State :=
  match (s.door k).state with
  | .secure =>
    (s.modifyDoor k DoorChannel.openedForced).submit (s.doorReport .doorForced k none)
  | .released => s.openAuthorised k
  | .idle | .opened | .held | .forced => s

/-- A closing (R132). -/
def State.doorCloses (s : State) (k : DoorNo) : State :=
  (s.modifyDoor k DoorChannel.closed).submitAll (s.alarmEnd k 0)

/-- The first level of a door-position input settles a SECURE or RELEASED door again (R134). -/
def State.firstLevel (s : State) (k : DoorNo) (level : Level) : State :=
  match level, (s.door k).state with
  | .active, .secure | .active, .released =>
    let s1 := if (s.door k).release.isSome then s.confirmReferences k else s
    s1.modifyDoor k fun d => d.openedAuthorised s.now
  | _, _ => s

/-- A REX press (R129). -/
def State.rexPressed (s : State) (k : DoorNo) : State :=
  if (s.door k).state = .idle then s
  else
    let s1 := s.modifyDoor k fun d => d.pressed s.now
    if (s.door k).settings.rexReleases then (s1.requestRelease k 0).2 else s1

/-! ## Modes (R123 to R125) -/

/-- A door comes into service and settles from its door-position input (R125). -/
def State.settleDoor (s : State) (k : DoorNo) : State :=
  s.modifyDoor k fun d => d.settle (s.input ⟨2 * k.val, by omega⟩).level s.now

/-- Entry into LOCKDOWN: pairing, release, state (R124). -/
def State.enterLockdown (s : State) (k : DoorNo) : State :=
  ((s.cancelPairing k).dropReferences k).modifyDoor k DoorChannel.lockDown

/-- Entry into OUT_OF_SERVICE: pairing, release, alarm end, IDLE (R124). -/
def State.leaveService (s : State) (k : DoorNo) : State :=
  (((s.cancelPairing k).dropReferences k).modifyDoor k DoorChannel.park).submitAll (s.alarmEnd k 1)

/-- What entry into a mode does to a channel that changes to it (R124). -/
def State.enterMode (s : State) (mode : DoorMode) (k : DoorNo) : State :=
  match mode with
  | .normal => s
  | .lockdown => s.enterLockdown k
  | .outOfService => s.leaveService k

/-- The mode of one channel is set (R123, R124, R125). -/
def State.setMode (mode : DoorMode) (s : State) (k : DoorNo) : State :=
  let old := (s.door k).mode
  if old = mode then s
  else
    let s1 := (s.modifyDoor k fun d => { d with mode := mode }).submit
      (s.doorReport .doorModeChanged k (some (old.number * 10 + mode.number)))
    let s2 := s1.enterMode mode k
    if old = .outOfService ∧ s.run = .running ∧ (s.door k).settings.inService then s2.settleDoor k
    else s2

/-! ## All channels -/

/-- Every pairing record is cancelled, in ascending door number (R83). -/
def State.cancelAllPairings (s : State) : State := sixteen.foldl State.cancelPairing s

/-- Every pairing record is cancelled by a reset, with no indication (R84). -/
def State.denyAllPairings (s : State) : State :=
  sixteen.foldl (fun s k => s.denyMembers k .pairingCancelled) s

/-- Every door hands over its list, in ascending door number (R98, R108). -/
def State.dropAllReferences (s : State) : State := sixteen.foldl State.dropReferences s

/-- A door goes IDLE with its timers stopped, and ends its alarm with detail number 1 (R142). -/
def State.stopDoor (s : State) (k : DoorNo) : State :=
  (s.modifyDoor k DoorChannel.stopAll).submitAll (s.alarmEnd k 1)

/-- Every door goes IDLE, in ascending order (R142). -/
def State.stopDoors (s : State) : State := sixteen.foldl State.stopDoor s

/-! ## Timer expiries -/

/-- RELEASE_TIMER_EXPIRY (R128). A stopped timer gives no expiry (R126). -/
def execReleaseTimerExpiry (k : DoorNo) (s : State) : Host.Outcome State Fault Refusal :=
  match (s.door k).release with
  | none => .next s
  | some deadline =>
    .next (((s.reach deadline).dropReferences k).modifyDoor k DoorChannel.releaseExpired)

/-- EGRESS_TIMER_EXPIRY (R130). A stopped timer gives no expiry (R126). -/
def execEgressTimerExpiry (k : DoorNo) (s : State) : Host.Outcome State Fault Refusal :=
  match (s.door k).egress with
  | none => .next s
  | some deadline => .next ((s.reach deadline).modifyDoor k DoorChannel.egressExpired)

/-- OPEN_ALLOWANCE_EXPIRY (R133). A stopped allowance gives no expiry (R126). -/
def execOpenAllowanceExpiry (k : DoorNo) (s : State) : Host.Outcome State Fault Refusal :=
  match (s.door k).allowance with
  | none => .next s
  | some deadline =>
    let s1 := (s.reach deadline).modifyDoor k DoorChannel.allowanceExpired
    if (s.door k).state = .opened then
      .next (s1.submit (s.doorReport .doorHeld k (some (s.door k).settings.openAllowance)))
    else .next s1

/-! ## Requests on doors -/

/-- The readers whose assignment a new set of doors changes lose their pending indication and last
presentation (R156). -/
def State.forgetReassigned (old : State) (s : State) (a : ReaderNo) : State :=
  if old.assignment a = s.assignment a then s
  else s.modifyReader a fun x => { x with pending := none, last := none }

/-- SET DOOR (R121): the settings are stored, the lock follows the park level (R137), readers whose
assignment changes are forgotten (R156), and a silent loop takes up polling (R157). -/
def ownSetDoor (payload : List Byte) (s : State) : Reply × State :=
  if s.run = .running then (refuse .notStopped, s)
  else
    match payload with
    | [] => (refuse .badLength, s)
    | n :: fields =>
      match sixteenOf n, doorSettingsOf fields with
      | some k, some x =>
        let s1 := s.modifyDoor k fun d => { d with settings := x, lock := x.parkLevel }
        (accept (.doorStored k x), (allReaders.foldl s.forgetReassigned s1).wakeLoop)
      | _, _ => (refuse .badValue, s)

/-- SET DOOR MODE (R123). -/
def ownSetDoorMode (payload : List Byte) (s : State) : Reply × State :=
  match payload with
  | [channel, mode] =>
    match channelsOf channel, modeOf mode with
    | some ks, some m =>
      let s1 := ks.foldl (State.setMode m) s
      (accept (.doorModes (ks.map fun k => (k, (s1.door k).mode))), s1)
    | _, _ => (refuse .badValue, s)
  | _ => (refuse .badLength, s)

/-- RELEASE DOOR (R140). -/
def ownReleaseDoor (payload : List Byte) (s : State) : Reply × State :=
  match payload with
  | [n] =>
    if s.run = .stopped then (refuse .notRunning, s)
    else
      match sixteenOf n with
      | none => (refuse .badValue, s)
      | some k =>
        if (s.door k).state = .idle then (refuse .notFound, s)
        else
          let s1 := (s.requestRelease k 0).2.submit
            (s.doorReport .remoteRelease k (some (s.door k).settings.releaseTime))
          (accept (.doorState (s1.door k).state), s1)
  | _ => (refuse .badLength, s)

/-- SILENCE moves a sounder from ON to SILENCED (R139). -/
def Sounder.silence : Sounder → Sounder
  | .on => .silenced
  | .off => .off
  | .silenced => .silenced

/-- SILENCE (R139). -/
def ownSilence (payload : List Byte) (s : State) : Reply × State :=
  match payload with
  | [n] =>
    if s.run = .stopped then (refuse .notRunning, s)
    else
      match sixteenOf n with
      | none => (refuse .badValue, s)
      | some k =>
        (accept (.silenced (s.door k).state (s.door k).sounder.silence),
          s.modifyDoor k fun d => { d with sounder := d.sounder.silence })
  | _ => (refuse .badLength, s)

/-- What READ DOOR returns (R141). -/
def State.channelReport (s : State) (k : DoorNo) : DoorReport :=
  let d := s.door k
  let position := s.input ⟨2 * k.val, by omega⟩
  let rex := s.input ⟨2 * k.val + 1, by omega⟩
  { settings := d.settings
    mode := d.mode
    state := d.state
    lock := d.lock
    sounder := d.sounder
    release := s.secondsLeft d.release
    egress := s.secondsLeft d.egress
    allowance := s.secondsLeft d.allowance
    provisional := d.provisional
    positionLevel := position.level
    rexLevel := rex.level
    positionFault := position.fault != .none
    rexFault := rex.fault != .none }

/-- READ DOOR (R141). -/
def ownReadDoor (payload : List Byte) (s : State) : Reply × State :=
  match payload with
  | [n] =>
    match sixteenOf n with
    | none => (refuse .badValue, s)
    | some k => (accept (.door (s.channelReport k)), s)
  | _ => (refuse .badLength, s)

def execSetDoor (r : Req) (s : State) : Host.Outcome State Fault Refusal :=
  .next (takeRequest .setDoor r ownSetDoor s)

def execSetDoorMode (r : Req) (s : State) : Host.Outcome State Fault Refusal :=
  .next (takeRequest .setDoorMode r ownSetDoorMode s)

def execReleaseDoor (r : Req) (s : State) : Host.Outcome State Fault Refusal :=
  .next (takeRequest .releaseDoor r ownReleaseDoor s)

def execSilence (r : Req) (s : State) : Host.Outcome State Fault Refusal :=
  .next (takeRequest .silence r ownSilence s)

def execReadDoor (r : Req) (s : State) : Host.Outcome State Fault Refusal :=
  .next (takeRequest .readDoor r ownReadDoor s)

end Sys2Proof.Machine
end

