-- ==== Sys2Proof/Machine/Flags.lean ====
section
/-! DEFINITION. What the part shows and counts of its state without storing it: the front-panel lamps and the
sounder outputs (R138, R160, R170, R171, R175), and the counts of READ STATUS (R175). -/

namespace Sys2Proof.Machine

/-! ## Counts (R175) -/

/-- The highest priority among the queued records, 0 for an empty queue (R175). -/
def State.highestPriority (s : State) : Nat :=
  s.queue.foldl (fun best r => max best r.priority) 0

/-- Whether a reader is assigned and OFFLINE (R160, R175). -/
def State.readerLost (s : State) (a : ReaderNo) : Bool :=
  (s.assignment a).isSome && (s.reader a).state == .offline

/-- The number of assigned readers in OFFLINE (R175). -/
def State.readersOffline (s : State) : Nat := allReaders.countP s.readerLost

/-- The number of door channels in HELD or FORCED (R175). -/
def State.doorsInAlarm (s : State) : Nat := sixteen.countP fun k => (s.door k).inAlarm

/-- The number of rooms in UNESCORTED (R175). -/
def State.roomsUnescorted (s : State) : Nat :=
  sixteen.countP fun r => (s.room r).supervision == .unescorted

/-! ## Lamps and outputs -/

/-- The RUN lamp is lit while the controller is RUNNING (R171). -/
def State.lampRun (s : State) : Bool := s.run == .running

/-- The LINK lamp is lit while the link is ONLINE (R170). -/
def State.lampLink (s : State) : Bool := s.link == .online

/-- The LOOP lamp is lit while an assigned reader is OFFLINE (R160). -/
def State.lampLoop (s : State) : Bool := allReaders.any s.readerLost

/-- The FAULT lamp is lit while the queue holds a record of priority 3 (R175). -/
def State.lampFault (s : State) : Bool := s.queue.any fun r => r.priority == 3

/-- A sounder output sinks current exactly while the sounder state is ON (R138). -/
def State.sounderOutput (s : State) (k : DoorNo) : Bool := (s.door k).sounder == .on

end Sys2Proof.Machine
end

