-- ==== Sys2Proof/Machine/Frames.lean ====
section
/-! DEFINITION. The frames that the part sends: its responses on the trunk (R177, R178) and its polls on the
reader loop (R158, R179), with the numbers that results, states, indications and reasons travel by. R177 gives the
encoding of a value; the order and widths of a response's fields are DEDUCED (notes/assumptions/31.md). -/

namespace Sys2Proof.Machine

/-! ## Enumerated values of responses, numbered from 0 in the order the manual lists them (R177) -/

/-- Chapter 10.3: STOPPED, RUNNING. -/
def RunState.byte : RunState → Byte
  | .stopped => 0
  | .running => 1

/-- Chapter 10.1: ONLINE, OFFLINE. -/
def LinkState.byte : LinkState → Byte
  | .online => 0
  | .offline => 1

/-- Chapter 2.1: SET, UNSET. -/
def ClockState.byte : ClockState → Byte
  | .set => 0
  | .unset => 1

/-- Chapter 1.1: FREE, ACTIVE, SUSPENDED; FREE, a slot that holds nothing, is 0. -/
def SlotState.byte : SlotState → Byte
  | .active => 1
  | .suspended => 2

/-- Chapter 5.2: PROVISIONAL, CONFIRMED. -/
def EntryState.byte : EntryState → Byte
  | .provisional => 0
  | .confirmed => 1

/-- Chapter 4.8: CLEAR, UNESCORTED. -/
def Supervision.byte : Supervision → Byte
  | .clear => 0
  | .unescorted => 1

/-- R113: EXACT, FILTER. -/
def Placement.byte : Placement → Byte
  | .exact => 0
  | .filter => 1

/-- R114: removed, flagged, already flagged, not found. -/
def EntryFate.byte : EntryFate → Byte
  | .removed => 0
  | .flagged => 1
  | .alreadyFlagged => 2
  | .notFound => 3

/-- R111 and R118: EXACT, FILTER, CLEAR. -/
def RevocationAnswer.byte : RevocationAnswer → Byte
  | .exact => 0
  | .filter => 1
  | .clear => 2

/-- Chapter 7.3: IDLE, SECURE, RELEASED, OPEN, HELD, FORCED. -/
def DoorState.byte : DoorState → Byte
  | .idle => 0
  | .secure => 1
  | .released => 2
  | .opened => 3
  | .held => 4
  | .forced => 5

/-- Chapter 7.3: OFF, ON, SILENCED. -/
def Sounder.byte : Sounder → Byte
  | .off => 0
  | .on => 1
  | .silenced => 2

/-- Chapter 8.2: NORMAL, ACTIVE, unclassified. -/
def Level.byte : Level → Byte
  | .normal => 0
  | .active => 1
  | .unclassified => 2

/-- Chapter 8.2: none, FAULT_SHORT, FAULT_OPEN. -/
def FaultState.byte : FaultState → Byte
  | .none => 0
  | .short => 1
  | .cut => 2

/-- Chapter 8.4: NORMAL, ACTIVE, FAULT_SHORT, FAULT_OPEN. -/
def LineClass.byte : LineClass → Byte
  | .normal => 0
  | .active => 1
  | .short => 2
  | .cut => 3

/-- Chapter 9.1: PENDING, ONLINE, OFFLINE. -/
def ReaderState.byte : ReaderState → Byte
  | .pending => 0
  | .online => 1
  | .offline => 2

/-- Chapter 3.1: ENTRY, EXIT. -/
def Direction.byte : Direction → Byte
  | .entry => 0
  | .exit => 1

/-- The position of a denial reason in the table of chapter 3.8, counted from 1 (R179). -/
def Reason.position : Reason → Nat
  | .notRunning => 1
  | .doorOutOfService => 2
  | .lockdown => 3
  | .doorFault => 4
  | .revoked => 5
  | .revokedFilter => 6
  | .unknownCredential => 7
  | .clockUnset => 8
  | .suspended => 9
  | .wrongRoom => 10
  | .notYet => 11
  | .expired => 12
  | .holiday => 13
  | .outsideHours => 14
  | .allowanceUsed => 15
  | .headendOffline => 16
  | .passback => 17
  | .roomFull => 18
  | .occupancyFull => 19
  | .groupFull => 20
  | .pairingBusy => 21
  | .pairingTimeout => 22
  | .pairingCancelled => 23
  | .doorBusy => 24

/-- The code of a denial reason in a payload. Chapter 3.8 has the same code travel in the reader's DENY indication and
in the ENTRY_DENIED record, and R179 counts that of the indication from 1, while R177 numbers enumerated values from 0:
the model takes the one code for all, DEDUCED (notes/assumptions/31.md). -/
def Reason.byte (reason : Reason) : Byte := byteOf reason.position

/-- Chapter 8.4: NORMAL, ACTIVE, FAULT_SHORT, FAULT_OPEN, or none. -/
def lineClassByte : Option LineClass → Byte
  | some c => c.byte
  | none => 4

/-- Chapter 9.1: GRANT, DENY with a reason, WAIT, EXIT. -/
def Indication.bytes : Indication → List Byte
  | .grant => [0]
  | .deny reason => [1, reason.byte]
  | .wait => [2]
  | .exit => [3]

/-- Chapter 9.1: GRANT, DENY with a reason, WAIT, EXIT, or none. -/
def indicationBytes : Option Indication → List Byte
  | some ind => ind.bytes
  | none => [4]

/-! ## Optional values -/

/-- An optional field as its bytes, with a free mark where it is absent. -/
def optionBytes {α : Type} (field : Config.OptionalField) (bytes : α → List Byte) : Option α → List Byte
  | none => Config.absentMark field
  | some a => bytes a

/-- An absolute minute, or its absence. -/
def minuteBytes (field : Config.OptionalField) : Option Nat → List Byte := optionBytes field (bytesOf 4)

/-- Whether a timer runs and, when it does, its whole seconds left (R141). -/
def timerBytes (width : Nat) : Option Nat → List Byte
  | none => [byteOfYesNo false]
  | some seconds => byteOfYesNo true :: bytesOf width seconds

/-! ## What responses carry, as bytes -/

/-- READ STATUS (R175). -/
def StatusReport.bytes (x : StatusReport) : List Byte :=
  (match x.station with
    | .address n => [n]
    | .broadcastOnly => Config.absentMark .station) ++
  [x.run.byte, x.link.byte, x.clock.byte] ++ bytesOf 2 x.queueLength ++ [byteOf x.highestPriority] ++
  bytesOf 2 x.lost ++ bytesOf 2 x.permitSlots ++ bytesOf 2 x.exactCount ++ bytesOf 2 x.positionsSet ++
  [byteOf x.entries, byteOf x.pairings, byteOf x.readersOffline, byteOf x.doorsInAlarm,
    byteOf x.roomsUnescorted]

/-- READ TIME (R34). -/
def TimeReport.bytes (x : TimeReport) : List Byte :=
  x.clock.state.byte :: x.clock.bytes ++ [byteOf x.weekday] ++ bytesOf 2 x.dayNumber ++
    bytesOf 2 x.minuteOfWeek ++ bytesOf 4 x.absoluteMinute

/-- A permit record in a response: its fields as PERMIT RECORD carries them (R12, R15). -/
def PermitReport.bytes (p : PermitReport) : List Byte :=
  bytesOfCredential p.credential ++ [p.role.byte] ++ bytesOf 3 p.workOrder ++ bytesOf16 p.rooms ++
    p.first.bytes ++ p.last.bytes ++ bytesOf 2 (minuteNumber p.startMinute) ++
    bytesOf 2 (minuteNumber p.endMinute) ++ [byteOf p.schedule, p.holidayRule.byte, byteOf p.allowance]

/-- READ PERMIT: for a FREE slot the state alone (R15). -/
def SlotReport.bytes : SlotReport → List Byte
  | .free => [0]
  | .held state permit count => state.byte :: permit.bytes ++ [byteOf count]

/-- REVOKE (R114). -/
def RevokeReport.bytes (x : RevokeReport) : List Byte :=
  [x.placement.byte, byteOfYesNo x.changed] ++ bytesOf 2 x.exactCount ++ bytesOf 2 x.position ++
    bytesOf 2 x.positionsSet ++ [byteOfYesNo x.memberRemoved, x.entry.byte]

/-- CHECK CREDENTIAL (R118). -/
def CredentialReport.bytes (x : CredentialReport) : List Byte :=
  x.answer.byte :: bytesOf 2 x.position ++ [byteOfYesNo x.positionSet] ++ bytesOf 2 x.exactCount ++
    bytesOf 2 x.positionsSet

/-- An occupancy entry of READ ROOM (R105). -/
def Entry.bytes (e : Entry) : List Byte :=
  bytesOfCredential e.credential ++ [e.role.byte] ++ bytesOf 2 e.slot ++ bytesOf 3 e.workOrder ++
    [byteOf e.door.val, e.state.byte] ++ minuteBytes .grantedStamp e.granted ++
    minuteBytes .confirmedStamp e.confirmed ++ minuteBytes .entitledUntil e.entitled ++
    [byteOfYesNo e.overstay, byteOfYesNo e.revokedInside]

/-- READ ROOM (R105). -/
def RoomReport.bytes (x : RoomReport) : List Byte :=
  [byteOf x.room.val, x.supervision.byte, byteOf x.entryCount, byteOf x.freeCount] ++
    x.entries.flatMap Entry.bytes

/-- READ DOOR (R141). "Whether either stands in a fault state" is read as a yes-or-no for each of the two inputs, that of
the door position before that of the REX input: DESIGN CHOICE (notes/assumptions/31.md). -/
def DoorReport.bytes (x : DoorReport) : List Byte :=
  x.settings.bytes ++ [byteOf x.mode.number, x.state.byte, x.lock.byte, x.sounder.byte] ++
    timerBytes 1 x.release ++ timerBytes 1 x.egress ++ timerBytes 2 x.allowance ++
    byteOf x.provisional.length :: x.provisional.flatMap bytesOfCredential ++
    [x.positionLevel.byte, x.rexLevel.byte, byteOfYesNo x.positionFault, byteOfYesNo x.rexFault]

/-- The part of READ INPUTS that depends on the mode (R154). -/
def LineReport.bytes : LineReport → List Byte
  | .plain steadyRuns => [byteOfYesNo steadyRuns]
  | .supervised lastValue accepted candidate run =>
    optionBytes .lastValue (bytesOf 2) lastValue ++
      [lineClassByte accepted, lineClassByte candidate, byteOf run]

/-- One input of READ INPUTS (R154). -/
def InputReport.bytes (x : InputReport) : List Byte :=
  [x.mode.byte, x.polarity.byte, byteOf x.bank.val, x.level.byte, x.fault.byte] ++ x.line.bytes

/-- READ INPUTS (R154). -/
def InputsReport.bytes (x : InputsReport) : List Byte :=
  byteOf x.confirmCount :: bytesOf 2 x.shortThreshold ++ bytesOf 2 x.normalTop ++
    bytesOf 2 x.activeThreshold ++ bytesOf 2 x.openThreshold ++ x.banks.toList.map CheckTime.byte ++
    x.inputs.flatMap InputReport.bytes

/-- One address of READ READERS (R165). The seconds stand most significant byte first, in a number of bytes that is a
free value (R177, notes/assumptions/31.md). -/
def ReaderReport.bytes (x : ReaderReport) : List Byte :=
  optionBytes .assignment (fun y => [byteOf y.1.val, Direction.byte y.2]) x.assignment ++
    [x.state.byte, byteOf x.misses, byteOfYesNo x.tamper] ++ indicationBytes x.pending ++
    optionBytes .lastPresentation (fun y => bytesOfCredential y.1 ++ bytesOf Config.elapsedWidth y.2) x.last

/-- A stamp: its date, hour, minute and second. -/
def Stamp.bytes (x : Stamp) : List Byte :=
  x.date.bytes ++ [byteOf x.hour, byteOf x.minute, byteOf x.second]

/-- A collected record: sequence, stamp, kind, priority and the optional fields (R185, chapters 11.1 and 11.2). -/
def Record.bytes (x : Record) : List Byte :=
  bytesOf 4 x.sequence.toNat ++ optionBytes .recordStamp Stamp.bytes x.stamp ++
    [byteOf x.report.kind.code, byteOf x.priority] ++
    optionBytes .recordDoor (fun k => [byteOf k.val]) x.report.door ++
    optionBytes .recordRoom (fun r => [byteOf r.val]) x.report.room ++
    optionBytes .recordReader (fun a => [byteOf (a.val + 1)]) x.report.reader ++
    optionBytes .recordCredential bytesOfCredential x.report.credential ++
    optionBytes .recordSlot (bytesOf 2) x.report.slot ++
    optionBytes .recordWorkOrder (bytesOf 3) x.report.workOrder ++
    optionBytes .recordReason (fun r => [Reason.byte r]) x.report.reason ++
    optionBytes .recordDetail (bytesOf 4) x.report.detail

/-! ## Responses on the trunk (R177, R178) -/

/-- The result code of a response (R178). -/
def ResultCode.code : ResultCode → Byte
  | .accepted => 0x00
  | .unknownKind => 0x01
  | .badLength => 0x02
  | .badValue => 0x03
  | .notStopped => 0x04
  | .notRunning => 0x05
  | .clockUnset => 0x06
  | .tableFull => 0x07
  | .duplicate => 0x08
  | .credentialLimit => 0x09
  | .notFound => 0x0A
  | .windowClosed => 0x0B
  | .windowEnd => 0x0C
  | .filtered => 0x0D
  | .roomOccupied => 0x0E
  | .configInconsistent => 0x0F

/-- The bytes of response data. R178 gives the two of CONFIG_INCONSISTENT, and R176 the parameters in the order of
SET CONTROLLER's payload and room settings as SET ROOM carries them. Of any other data the fields stand in the order
in which its rule lists them, each in the fewest bytes that hold its range: DEDUCED (notes/assumptions/31.md). R123 has
the response to SET DOOR MODE carry the mode of each channel named; that the channel's number stands beside each mode
is the model's: DESIGN CHOICE (notes/assumptions/31.md). -/
def ResponseData.bytes : ResponseData → List Byte
  | .empty => []
  | .status report => report.bytes
  | .controller params => params.bytes
  | .rooms settings => settings.flatMap RoomSettings.bytes
  | .configFault check item => [byteOf check, byteOf item]
  | .time clock => clock.bytes
  | .timeReading report => report.bytes
  | .windowSlots first last => bytesOf 2 first ++ bytesOf 2 last
  | .permitWritten slot p position => bytesOf 2 slot ++ p.bytes ++ bytesOf 2 position
  | .permitFreed slot position => bytesOf 2 slot ++ bytesOf 2 position
  | .writePosition position => bytesOf 2 position
  | .duplicateSlot position slot => bytesOf 2 position ++ bytesOf 2 slot
  | .permit report => report.bytes
  | .slotState state => [state.byte]
  | .scheduleHeld n windows => [byteOf n, byteOf windows]
  | .schedule windows => byteOf windows.length :: windows.flatMap WeeklyWindow.bytes
  | .holidayCount days => [byteOf days]
  | .holidays days => byteOf days.length :: days.flatMap Date.bytes
  | .revoked report => report.bytes
  | .reinstated held position set => bytesOf 2 held ++ bytesOf 2 position ++ [byteOfYesNo set]
  | .exactCount count => bytesOf 2 count
  | .filterCleared positions => bytesOf 2 positions
  | .credential report => report.bytes
  | .revocations held positionsSet credentials =>
    bytesOf 2 held ++ bytesOf 2 positionsSet ++ credentials.flatMap bytesOfCredential
  | .roomStored q settings => byteOf q.val :: settings.bytes
  | .room report => report.bytes
  | .occupantCleared q state => [byteOf q.val, state.byte]
  | .roomCleared entries => [byteOf entries]
  | .doorStored k settings => byteOf k.val :: settings.bytes
  | .doorModes modes => modes.flatMap fun x => [byteOf x.1.val, byteOf x.2.number]
  | .doorState state => [state.byte]
  | .silenced state sounder => [state.byte, sounder.byte]
  | .door report => report.bytes
  | .inputStored i mode polarity level => [byteOf i.val, mode.byte, polarity.byte, level.byte]
  | .inputs report => report.bytes
  | .readers round repeatInterval entries =>
    [byteOf round, byteOf repeatInterval] ++ entries.flatMap ReaderReport.bytes
  | .collected left lost records =>
    byteOf records.length :: bytesOf 2 left ++ bytesOf 2 lost ++ records.flatMap Record.bytes

/-- The payload of a response, at most 240 bytes (R177). -/
def ResponseData.payload (data : ResponseData) : List Byte := data.bytes.take 240

/-- The frame of a response from a station (R177). -/
def Response.frame (station : Byte) (x : Response) : List Byte :=
  responseFrame station x.kind x.result.code x.data.payload

/-- The frame that is on the trunk: that of the oldest response owed while the part is sending, with the
station's number; a BROADCAST_ONLY station sends none (R167, R169, R177). -/
def State.trunkFrame (s : State) : Option (List Byte) :=
  match s.sending, s.responses, s.station with
  | true, x :: _, .address n => some (x.frame n)
  | _, _, _ => none

/-! ## Polls on the reader loop (R158, R179) -/

/-- The number of an indication in a poll, 0 for none (R179). -/
def indicationNumber : Option Indication → Nat
  | none => 0
  | some .grant => 1
  | some (.deny _) => 2
  | some .wait => 3
  | some .exit => 4

/-- The number of the reason in a poll, 0 but for DENY (R179). -/
def reasonNumber : Option Indication → Nat
  | some (.deny reason) => reason.position
  | some .grant => 0
  | some .wait => 0
  | some .exit => 0
  | none => 0

/-- The poll of a reader with the indication it carries (R158, R179). -/
def pollOf (a : ReaderNo) (indication : Option Indication) : List Byte :=
  pollFrame a (indicationNumber indication) (reasonNumber indication)

/-- The frame of the poll in flight (R158). -/
def State.loopFrame (s : State) : Option (List Byte) :=
  match s.loop with
  | .poll a indication _ => some (pollOf a indication)
  | .silent => none
  | .quiet _ => none

end Sys2Proof.Machine
end

