-- ==== Sys2Proof/Machine/Inputs.lean ====
section
/-! DEFINITION. The input conditioner (chapter 8): levels and what the door channel is given, debounce of
plain inputs, the supervision scanner, and the requests on inputs. -/

namespace Sys2Proof.Machine

/-! ## Levels (R145) -/

/-- The door channel of an input (R145). -/
def doorOfInput (i : InputNo) : DoorNo := ⟨i.val / 2, by omega⟩

/-- Whether an input is a door position (R145). -/
def isDoorPosition (i : InputNo) : Bool := i.val % 2 == 0

/-- The bank of an input (chapter 8.1). -/
def bankOf (i : InputNo) : BankNo := ⟨i.val / 8, by omega⟩

/-- A changed level is handed to the door channel (R145). -/
def State.handOver (s : State) (i : InputNo) (old new : Level) : State :=
  let k := doorOfInput i
  if isDoorPosition i then
    match old, new with
    | .normal, .active => s.doorOpens k
    | .active, .normal => s.doorCloses k
    | .unclassified, .normal => s.firstLevel k .normal
    | .unclassified, .active => s.firstLevel k .active
    | _, _ => s
  else
    match old, new with
    | .normal, .active => s.rexPressed k
    | _, _ => s

/-- An input takes a level; a change is handed over in the same event (R145). -/
def State.acceptLevel (s : State) (i : InputNo) (new : Level) : State :=
  (s.modifyInput i fun x => { x with level := new }).handOver i (s.input i).level new

/-! ## Debounce of plain inputs (R147, R148) -/

/-- The mapping of a contact through the polarity (R147). -/
def mappedLevel : Polarity → Contact → Level
  | .normallyClosed, .closed => .normal
  | .normallyClosed, .opened => .active
  | .normallyOpen, .opened => .normal
  | .normallyOpen, .closed => .active

/-- The level that a plain input's contact stands for. -/
def InputLine.mapped (x : InputLine) : Level := mappedLevel x.polarity x.contact

/-- A check time in milliseconds, none when it is off (chapter 8.1). -/
def CheckTime.ms : CheckTime → Option Nat
  | .off => none
  | .ms10 => some 10
  | .ms20 => some 20
  | .ms50 => some 50
  | .ms100 => some 100
  | .ms250 => some 250

/-- The check time of an input's bank. -/
def State.checkTime (s : State) (i : InputNo) : Option Nat := (s.params.banks[bankOf i]).ms

/-- The steady timer of an input (re)starts with its bank's check time; with the check time off the contact's
level is accepted at once (R147, R148). -/
def State.startSteady (s : State) (i : InputNo) : State :=
  match s.checkTime i with
  | some ms => s.modifyInput i fun x => { x with steady := some (s.now + ms) }
  | none =>
    (s.modifyInput i fun x => { x with steady := none }).acceptLevel i (s.input i).mapped

/-- A plain input takes a change of its contact, which already stands in it (R147). -/
def State.contactMoved (s : State) (i : InputNo) : State :=
  if (s.input i).mapped = (s.input i).level then s.modifyInput i fun x => { x with steady := none }
  else s.startSteady i

/-- CONTACT_CHANGE (R147). The contact of a supervised input is kept for the moment it is made plain, and a
contact that moves while the reset pin is held is kept for its release (R173). -/
def execContactChange (i : InputNo) (contact : Contact) (s : State) :
    Host.Outcome State Fault Refusal :=
  if (s.input i).contact = contact then .next s
  else
    let s1 := s.modifyInput i fun x => { x with contact := contact }
    if (s.input i).mode = .plain ∧ s.pinHeld = false then .next (s1.contactMoved i)
    else .next s1

/-- STEADY_TIMER_EXPIRY (R147). A stopped timer gives no expiry. -/
def execSteadyTimerExpiry (i : InputNo) (s : State) : Host.Outcome State Fault Refusal :=
  match (s.input i).steady with
  | none => .next s
  | some deadline =>
    let s1 := (s.reach deadline).modifyInput i fun x => { x with steady := none }
    .next (s1.acceptLevel i (s.input i).mapped)

/-! ## The supervision scanner (R149 to R152) -/

/-- The class read from a value, none in the indeterminate band (R149). -/
def Params.classOf (p : Params) (v : Nat) : Option LineClass :=
  if v < p.shortThreshold then some .short
  else if v < p.normalTop then some .normal
  else if v < p.activeThreshold then none
  else if v < p.openThreshold then some .active
  else some .cut

/-- The fault state of an accepted class (R151). -/
def LineClass.fault : LineClass → FaultState
  | .normal => .none
  | .active => .none
  | .short => .short
  | .cut => .cut

/-- The level of an accepted class, none for a fault class, which holds it (R151). -/
def LineClass.level : LineClass → Option Level
  | .normal => some .normal
  | .active => some .active
  | .short => none
  | .cut => none

/-- The confirm run of an input after a reading: candidate, run count, and the class it accepts, if any
(R150). -/
def InputLine.confirm (x : InputLine) (read : Option LineClass) (count : Nat) :
    Option LineClass × Nat × Option LineClass :=
  match read with
  | none => (none, 0, none)
  | some c =>
    if x.accepted = some c then (none, 0, none)
    else
      let run := if x.candidate = some c then x.run + 1 else 1
      if count ≤ run then (none, 0, some c) else (some c, run, none)

/-- A record of an input: its door, that door's room, and the input number × 10 plus a code (R152). -/
def State.inputReport (s : State) (kind : RecordKind) (i : InputNo) (code : Nat) : Report :=
  { kind := kind, door := some (doorOfInput i), room := some (s.roomOf (doorOfInput i))
    detail := some (i.val * 10 + code) }

/-- The code of INPUT_FAULT for a fault state (R152). -/
def FaultState.code : FaultState → Nat
  | .none => 0
  | .short => 1
  | .cut => 2

/-- The records of a change of fault state (R152). -/
def State.faultReports (s : State) (i : InputNo) (old new : FaultState) : List Report :=
  if old = new then []
  else
    (match old with
      | .none => []
      | .short | .cut => [s.inputReport .inputFaultEnd i (if new = .none then 0 else 3)]) ++
    (match new with
      | .none => []
      | .short | .cut => [s.inputReport .inputFault i new.code])

/-- An input accepts a class (R151, R152). The fault records stand before the door's own record of a level
handed over in the same event, which no rule orders: DESIGN CHOICE (notes/assumptions/10.md). -/
def State.acceptClass (s : State) (i : InputNo) (c : LineClass) : State :=
  let old := (s.input i).fault
  let s1 := (s.modifyInput i fun x => { x with accepted := some c, fault := c.fault }).submitAll
    (s.faultReports i old c.fault)
  match c.level with
  | some level => s1.acceptLevel i level
  | none => s1

/-- One pass over one input: a supervised one is measured, its class read and its confirm run kept (R149,
R150). -/
def State.scanInput (values : Vector (BitVec 10) 32) (s : State) (i : InputNo) : State :=
  match (s.input i).mode with
  | .plain => s
  | .supervised =>
    let v := (values[i]).toNat
    let next := (s.input i).confirm (s.params.classOf v) s.params.confirmCount
    let s1 := s.modifyInput i fun x =>
      { x with lastValue := some v, candidate := next.1, run := next.2.1 }
    match next.2.2 with
    | some c => s1.acceptClass i c
    | none => s1

/-- The 32 inputs, ascending. -/
def allInputs : List InputNo := List.finRange 32

/-- SCANNER_PASS (R149). The scanner makes no pass while the reset pin is held (R173). -/
def execScannerPass (values : Vector (BitVec 10) 32) (s : State) : Host.Outcome State Fault Refusal :=
  if s.pinHeld then .next s
  else
    .next (allInputs.foldl (State.scanInput values)
      { s.reach s.scanDue with scanDue := s.scanDue + Config.scanPeriod })

/-! ## Restarts (R146, R155) -/

/-- An input begins afresh, with its settings and its contact, and no steady timer yet (R146, R155). R155 clears the
last value at a reset; that SET INPUT clears it as well, and the accepted class of an input that stays supervised, of
which R146 says nothing, is a DESIGN CHOICE (notes/assumptions/34.md). -/
def InputLine.restarted (x : InputLine) : InputLine :=
  { x with
    level := .unclassified
    fault := .none
    steady := none
    lastValue := none
    accepted := none
    candidate := none
    run := 0 }

/-- A plain input settles from its contact as it stands; a supervised one waits for its next pass (R148,
R155). -/
def State.beginInput (s : State) (i : InputNo) : State :=
  match (s.input i).mode with
  | .plain => s.startSteady i
  | .supervised => s

/-- The end record of an input that stands in a fault state (R152). -/
def State.faultEnd (s : State) (i : InputNo) (code : Nat) : List Report :=
  match (s.input i).fault with
  | .none => []
  | .short | .cut => [s.inputReport .inputFaultEnd i code]

/-- A reset restarts an input, with INPUT_FAULT_END code 5 for one in a fault state (R155). -/
def State.resetInput (s : State) (i : InputNo) : State :=
  (s.modifyInput i InputLine.restarted).submitAll (s.faultEnd i 5)

/-- A reset restarts every input, in ascending order (R155). -/
def State.resetInputs (s : State) : State := allInputs.foldl State.resetInput s

/-- Every input begins afresh, in ascending order (R148, R155). -/
def State.beginInputs (s : State) : State := allInputs.foldl State.beginInput s

/-! ## Requests on inputs -/

/-- SET INPUT on an input of the table (R146). -/
def State.configureInput (s : State) (i : InputNo) (mode : InputMode) (polarity : Polarity) : State :=
  let x := s.input i
  if x.mode = mode ∧ x.polarity = polarity then s
  else
    ((s.setInput i { x.restarted with mode := mode, polarity := polarity }).submitAll
      (s.faultEnd i 4)).beginInput i

/-- SET INPUT (R146). -/
def ownSetInput (payload : List Byte) (s : State) : Reply × State :=
  match payload with
  | [n, m, p] =>
    if s.run = .running then (refuse .notStopped, s)
    else
      match inputOf n, inputModeOf m, polarityOf p with
      | some i, some mode, some polarity =>
        let s1 := s.configureInput i mode polarity
        (accept (.inputStored i mode polarity (s1.input i).level), s1)
      | _, _, _ => (refuse .badValue, s)
  | _ => (refuse .badLength, s)

/-- What READ INPUTS returns of one input (R154). -/
def State.lineReport (s : State) (i : InputNo) : InputReport :=
  let x := s.input i
  { mode := x.mode
    polarity := x.polarity
    bank := bankOf i
    level := x.level
    fault := x.fault
    line := match x.mode with
      | .plain => .plain x.steady.isSome
      | .supervised => .supervised x.lastValue x.accepted x.candidate x.run }

/-- READ INPUTS (R154). -/
def ownReadInputs (payload : List Byte) (s : State) : Reply × State :=
  match payload with
  | [f, l] =>
    match inputOf f, inputOf l with
    | some first, some last =>
      if first ≤ last then
        (accept (.inputs
          { confirmCount := s.params.confirmCount
            shortThreshold := s.params.shortThreshold
            normalTop := s.params.normalTop
            activeThreshold := s.params.activeThreshold
            openThreshold := s.params.openThreshold
            banks := s.params.banks
            inputs := (allInputs.filter fun i => decide (first ≤ i) && decide (i ≤ last)).map
              s.lineReport }), s)
      else (refuse .badValue, s)
    | _, _ => (refuse .badValue, s)
  | _ => (refuse .badLength, s)

def execSetInput (r : Req) (s : State) : Host.Outcome State Fault Refusal :=
  .next (takeRequest .setInput r ownSetInput s)

def execReadInputs (r : Req) (s : State) : Host.Outcome State Fault Refusal :=
  .next (takeRequest .readInputs r ownReadInputs s)

end Sys2Proof.Machine
end

