-- ==== Sys2Proof/Machine/Revocation.lean ====
section
/-! DEFINITION. The revocation block (chapter 6): the exact list, the filter and its arithmetic, the answer
to "revoked?", and the revocation requests. -/

namespace Sys2Proof.Machine

/-! ## The filter (R110) -/

/-- The fold of a credential: the exclusive-or of its two halves (R110 step 1). -/
def foldOf (c : Credential) : BitVec 16 := c.extractLsb' 16 16 ^^^ c.extractLsb' 0 16

/-- The scatter of a fold (R110 step 2). -/
def scatterOf (x : BitVec 16) : Nat := x.toNat * 40503 % 65536

/-- The filter position of a credential (R110 step 3). -/
def positionOf (c : Credential) : Nat := scatterOf (foldOf c) / 64

/-- Whether a position is set. -/
def State.positionSet (s : State) (p : Nat) : Bool := s.filter.contains p

/-! ## The answer (R111) -/

/-- Whether a credential is revoked (R111). -/
def State.revocation (s : State) (c : Credential) : RevocationAnswer :=
  if s.exactList.contains c then .exact
  else if s.positionSet (positionOf c) then .filter
  else .clear

/-! ## REVOKE (R113, R114) -/

/-- Where REVOKE places a credential, and whether that changes the list or the filter (R113). -/
def State.placement (s : State) (c : Credential) : Placement × Bool :=
  if s.exactList.contains c then (.exact, false)
  else if s.exactList.length < Config.exactCapacity then (.exact, true)
  else (.filter, !s.positionSet (positionOf c))

/-- A credential goes to the full list's filter, with REVOCATION_OVERFLOW when no position was set before
(R113 case 3). -/
def State.overflow (s : State) (c : Credential) : State :=
  let s1 := { s with filter := insertAscending (positionOf c) s.filter }
  if s.filter.isEmpty then
    s1.submit
      { kind := .revocationOverflow, credential := some c, detail := some (positionOf c) }
  else s1

/-- The placement of a revocation (R113). -/
def State.placeRevocation (s : State) (c : Credential) : State :=
  if s.exactList.contains c then s
  else if s.exactList.length < Config.exactCapacity then
    { s with exactList := insertAscending c s.exactList }
  else s.overflow c

/-- A REVOKE meets the credential's occupancy entry (R103, R104, R114). -/
def State.revokeEntry (s : State) (c : Credential) : EntryFate × State :=
  match s.findEntry c with
  | none => (.notFound, s)
  | some (r, e) =>
    match e.state with
    | .provisional =>
      (.removed, ((s.notEntered r e).modifyDoor e.door DoorChannel.cancelIfEmpty).supervise r)
    | .confirmed =>
      if e.revokedInside then (.alreadyFlagged, s)
      else
        (.flagged, (s.changeEntry r c fun x => { x with revokedInside := true }).submit
          (removalReport .revokedInside r e))

/-- A refusal of REVOKE or REINSTATE carries the exact-list count, as every response to them does (R109; for
BAD_LENGTH see notes/assumptions/30.md). -/
def State.refuseCounting (s : State) (code : ResultCode) : Reply := ⟨code, .exactCount s.exactList.length⟩

/-- REVOKE (R113, R114). -/
def ownRevoke (payload : List Byte) (s : State) : Reply × State :=
  match credentialOf payload with
  | none => (refuse .badLength, s)
  | some c =>
    if c = 0 then (s.refuseCounting .badValue, s)
    else
      let s1 := (s.placeRevocation c).revokeMember c
      let fate := s1.revokeEntry c
      (accept (.revoked
        { placement := (s.placement c).1
          changed := (s.placement c).2
          exactCount := s1.exactList.length
          position := positionOf c
          positionsSet := s1.filter.length
          memberRemoved := (s.membership c).isSome
          entry := fate.1 }), fate.2)

/-! ## The other requests (R116 to R119) -/

/-- REINSTATE (R109, R116). -/
def ownReinstate (payload : List Byte) (s : State) : Reply × State :=
  match credentialOf payload with
  | none => (refuse .badLength, s)
  | some c =>
    if c = 0 then (s.refuseCounting .badValue, s)
    else if s.exactList.contains c then
      let list := removeFrom c s.exactList
      (accept (.reinstated list.length (positionOf c) (s.positionSet (positionOf c))),
        { s with exactList := list })
    else if s.positionSet (positionOf c) then (s.refuseCounting .filtered, s)
    else (s.refuseCounting .notFound, s)

/-- CLEAR FILTER (R117). -/
def ownClearFilter (_payload : List Byte) (s : State) : Reply × State :=
  (accept (.filterCleared s.filter.length), { s with filter := [] })

/-- CHECK CREDENTIAL (R118). -/
def ownCheckCredential (payload : List Byte) (s : State) : Reply × State :=
  match credentialOf payload with
  | none => (refuse .badLength, s)
  | some c =>
    if c = 0 then (refuse .badValue, s)
    else
      (accept (.credential
        { answer := s.revocation c
          position := positionOf c
          positionSet := s.positionSet (positionOf c)
          exactCount := s.exactList.length
          positionsSet := s.filter.length }), s)

/-- READ REVOCATIONS (R119). -/
def ownReadRevocations (payload : List Byte) (s : State) : Reply × State :=
  let start := numberOf payload
  if start ≤ 255 then
    (accept (.revocations s.exactList.length s.filter.length
      ((s.exactList.drop start).take 32)), s)
  else (refuse .badValue, s)

def execRevoke (r : Req) (s : State) : Host.Outcome State Fault Refusal :=
  .next (takeRequest .revoke r ownRevoke s)

def execReinstate (r : Req) (s : State) : Host.Outcome State Fault Refusal :=
  .next (takeRequest .reinstate r ownReinstate s)

def execClearFilter (r : Req) (s : State) : Host.Outcome State Fault Refusal :=
  .next (takeRequest .clearFilter r ownClearFilter s)

def execCheckCredential (r : Req) (s : State) : Host.Outcome State Fault Refusal :=
  .next (takeRequest .checkCredential r ownCheckCredential s)

def execReadRevocations (r : Req) (s : State) : Host.Outcome State Fault Refusal :=
  .next (takeRequest .readRevocations r ownReadRevocations s)

end Sys2Proof.Machine
end

