-- ==== Sys2Proof/Machine/Decision.lean ====
section
/-! DEFINITION. The entry decision (chapter 3): stages 1 to 4, the permit search, and what a grant and a
denial change. Stage 5's pairing stands in Escort.lean. -/

namespace Sys2Proof.Machine

/-! ## Stage 1 (R46) -/

/-- Stage 1: the first check that applies gives the denial (R46). -/
def State.stage1 (s : State) (k : DoorNo) : Option Reason :=
  let d := s.door k
  if s.run = .stopped then some .notRunning
  else if d.mode = .outOfService then some .doorOutOfService
  else if d.mode = .lockdown then some .lockdown
  else if d.settings.denyOnFault ∧ (s.input ⟨2 * k.val, by omega⟩).fault ≠ .none then some .doorFault
  else none

/-! ## Stage 2 (R47) -/

/-- Stage 2: a revoked credential's denial (R47). It is not asked for credential 0 (R45). -/
def State.stage2 (s : State) (c : Credential) : Option Reason :=
  if c = 0 then none
  else
    match s.revocation c with
    | .exact => some .revoked
    | .filter => some .revokedFilter
    | .clear => none

/-! ## Stage 3 (R48 to R54) -/

/-- The permit that a decision settles on (R53). -/
structure Qualifying where
  slot : Nat
  permit : PermitRecord
  deriving DecidableEq, Repr

/-- A slot and the work order of its permit, as a denial record carries them. -/
def Qualifying.carried (q : Qualifying) : Option (Nat × Nat) := some (q.slot, q.permit.workOrder)

/-- The depth of a stage 3 reason (R54). -/
def Reason.depth : Reason → Nat
  | .suspended => 1
  | .wrongRoom => 2
  | .notYet | .expired => 3
  | .holiday => 4
  | .outsideHours => 5
  | .allowanceUsed => 6
  | _ => 0

/-- Check c: the permit's span against the day and minute of the reading (R50). -/
def dateCheck (p : PermitRecord) (day minute : Nat) : Option Reason :=
  if day < p.firstDay then some .notYet
  else if day = p.firstDay ∧ minute < p.startMinute.getD 0 then some .notYet
  else if p.lastDay < day then some .expired
  else if day = p.lastDay ∧ p.endMinute.getD 1440 ≤ minute then some .expired
  else none

/-- Checks c to e of a slot at a SET reading (R50, R51). -/
def State.calendarChecks (s : State) (p : PermitRecord) (reading : Clock) : Option Reason :=
  match dateCheck p reading.dayNumber reading.minuteOfDay with
  | some r => some r
  | none =>
    if p.holidayRule = .honour ∧ s.isHoliday reading.dayNumber then some .holiday
    else if s.scheduleMatches p.schedule reading.minuteOfWeek then none
    else some .outsideHours

/-- Check f: the count against the allowance, with an entry of the credential that is PROVISIONAL in the
room under this slot taken out of the count (R52). -/
def State.allowanceCheck (s : State) (room : RoomNo) (n : Nat) (x : PermitSlot) : Option Reason :=
  let used := if s.provisionalUnder x.permit.credential room n then x.count - 1 else x.count
  if x.permit.allowance ≠ 0 ∧ x.permit.allowance ≤ used then some .allowanceUsed else none

/-- The checks a to f of one slot, in order: the first that it does not pass, or none. Under an UNSET reading
checks c, d and e are skipped (R48 to R52). -/
def State.checkSlot (s : State) (room : RoomNo) (reading : Clock) (n : Nat) (x : PermitSlot) :
    Option Reason :=
  if x.state = .suspended then some .suspended
  else if x.permit.rooms.getLsbD room.val = false then some .wrongRoom
  else
    match reading.state with
    | .unset => s.allowanceCheck room n x
    | .set =>
      match s.calendarChecks x.permit reading with
      | some r => some r
      | none => s.allowanceCheck room n x

/-- The outcome of stage 3: the qualifying permit, or a denial with the slot that gave its reason. -/
inductive SearchResult where
  | qualifies (q : Qualifying)
  | fails (reason : Reason) (permit : Option (Nat × Nat))
  deriving DecidableEq, Repr

/-- The search over slots in ascending order: the first that passes qualifies (R53), and else the deepest
failure gives the reason, the lowest slot of equal depth (R54). `best` is the deepest failure so far. -/
def State.searchSlots (s : State) (room : RoomNo) (reading : Clock) (best : Reason × Option (Nat × Nat)) :
    List (Nat × PermitSlot) → SearchResult
  | [] => .fails best.1 best.2
  | (n, x) :: rest =>
    match s.checkSlot room reading n x with
    | none => .qualifies ⟨n, x.permit⟩
    | some r =>
      if best.1.depth < r.depth then s.searchSlots room reading (r, some (n, x.permit.workOrder)) rest
      else s.searchSlots room reading best rest

/-- Stage 3 over a list of slots (R48): UNKNOWN_CREDENTIAL when it is empty, CLOCK_UNSET under an UNSET
reading with policy DENY, else the search. -/
def State.searchPermits (s : State) (room : RoomNo) (reading : Clock)
    (slots : List (Nat × PermitSlot)) : SearchResult :=
  if slots.isEmpty then .fails .unknownCredential none
  else if reading.state = .unset ∧ s.params.policy = .deny then .fails .clockUnset none
  else s.searchSlots room reading (.unknownCredential, none) slots

/-! ## Stage 4 (R56 to R59) -/

/-- How stage 4 lets a presentation go on (R57). -/
inductive Passage where
  /-- The credential's entry is PROVISIONAL at this door: a re-grant (R58). -/
  | regrant (entry : Entry)
  /-- The credential's entry is CONFIRMED in this room, which does not enforce passback (R63). -/
  | overOwn
  /-- A new entry is placed; the cap check passed (R59). -/
  | newEntry
  | denied (reason : Reason)
  deriving DecidableEq, Repr

/-- R56: a contractor at an online-only room while the link is OFFLINE. -/
def State.needsHeadEnd (s : State) (room : RoomNo) (role : Role) : Bool :=
  role == .contractor && (s.room room).settings.onlineOnly && s.link == .offline

/-- The cap check: `adds` entries join the room, of which `needed` come from the pool (R59, R80). -/
def State.capCheck (s : State) (room : RoomNo) (adds needed : Nat) : Option Reason :=
  if (s.room room).settings.cap < s.entryCount room + adds then some .roomFull
  else if s.freeCount < needed then some .occupancyFull
  else none

/-- The cap check of a single grant, as a passage (R59). -/
def State.capPassage (s : State) (room : RoomNo) (adds needed : Nat) : Passage :=
  match s.capCheck room adds needed with
  | some r => .denied r
  | none => .newEntry

/-- R57: what the credential's entry makes of the presentation. An entry that the grant frees in another
room counts as free in the pool. -/
def State.entryPassage (s : State) (k : DoorNo) (c : Credential) : Passage :=
  let room := s.roomOf k
  match s.findEntry c with
  | none => s.capPassage room 1 1
  | some (r, e) =>
    if r ≠ room then s.capPassage room 1 0
    else
      match e.state with
      | .provisional => if e.door = k then .regrant e else s.capPassage room 0 0
      | .confirmed =>
        if (s.room room).settings.passback then .denied .passback else .overOwn

/-- Stage 4 (R56, R57). -/
def State.stage4 (s : State) (k : DoorNo) (c : Credential) (role : Role) : Passage :=
  if s.needsHeadEnd (s.roomOf k) role then .denied .headendOffline else s.entryPassage k c

/-! ## Outcomes (R58, R61 to R65) -/

/-- A denial: DENY with the reason for the reader, and an ENTRY_DENIED record (R65). -/
def State.deny (s : State) (k : DoorNo) (a : ReaderNo) (c : Credential) (reason : Reason)
    (permit : Option (Nat × Nat)) : State :=
  (s.submit (s.denial k (some a) c reason permit)).post a (.deny reason)

/-- A re-grant: the release timer restarts, GRANT, and a REGRANT record with the slot and work order of the
existing entry (R58). -/
def State.regrant (s : State) (k : DoorNo) (a : ReaderNo) (e : Entry) : State :=
  ((s.modifyDoor k fun d => d.restartRelease s.now).submit
    { kind := .regrant, door := some k, room := some (s.roomOf k), reader := some a
      credential := some e.credential, slot := some e.slot, workOrder := some e.workOrder }).post a
    .grant

/-- The ENTRY_GRANTED record of a credential (R64). -/
def State.grantReport (s : State) (k : DoorNo) (a : ReaderNo) (c : Credential) (q : Qualifying)
    (entitled : Option Nat) : Report :=
  { kind := .entryGranted, door := some k, room := some (s.roomOf k), reader := some a
    credential := some c, slot := some q.slot, workOrder := some q.permit.workOrder
    detail := entitled }

/-- The new entry of a grant (R62 step 3, R93). -/
def State.newEntry (s : State) (k : DoorNo) (c : Credential) (q : Qualifying) (reading : Clock)
    (atOnce : Bool) : Entry :=
  { credential := c
    role := q.permit.role
    slot := q.slot
    workOrder := q.permit.workOrder
    door := k
    state := if atOnce then .confirmed else .provisional
    granted := reading.minuteStamp
    confirmed := if atOnce then reading.minuteStamp else none
    entitled := s.entitledUntil q.permit reading
    overstay := false
    revokedInside := false }

/-- The credential's entry that the grant does not keep is removed: from another room with IMPLIED_EXIT, its
count handed back when it was PROVISIONAL; in this room with NOT_ENTERED (R62 steps 1 and 2, R96). -/
def State.removeOldEntry (s : State) (k : DoorNo) (r : RoomNo) (e : Entry) : State :=
  if r = s.roomOf k then s.notEntered r e
  else
    match e.state with
    | .provisional =>
      (s.removeEntry .impliedExit r e).returnCount e.slot e.credential e.workOrder
    | .confirmed => s.removeEntry .impliedExit r e

/-- The grant keeps the credential's own CONFIRMED entry in the door's room (R57, R63, R81). -/
def State.holdsConfirmed (s : State) (room : RoomNo) (c : Credential) : Bool :=
  match s.findEntry c with
  | some (r, e) => decide (r = room) && e.state == .confirmed
  | none => false

/-- The entry of a grant over the credential's own CONFIRMED entry: slot, role, work order and
entitled-until are those of this decision (R63). -/
def Entry.regranted (q : Qualifying) (entitled : Option Nat) (e : Entry) : Entry :=
  { e with role := q.permit.role, slot := q.slot, workOrder := q.permit.workOrder, entitled := entitled }

/-- The new entry of a grant takes its place, with its reference when it is PROVISIONAL (R62 step 3,
R136). -/
def State.placeGranted (s : State) (k : DoorNo) (c : Credential) (q : Qualifying) (reading : Clock)
    (atOnce : Bool) : State :=
  let s1 := s.placeEntry (s.roomOf k) (s.newEntry k c q reading atOnce)
  if atOnce then s1 else s1.addReference k c

/-- The grant is applied to one credential (R62, R63): the old entry, the new entry, the count, and the
ENTRY_GRANTED record. The records of the supervision checks follow apart. -/
def State.applyGrant (s : State) (k : DoorNo) (a : ReaderNo) (c : Credential) (q : Qualifying)
    (reading : Clock) (atOnce : Bool) : State :=
  let entitled := s.entitledUntil q.permit reading
  let s1 :=
    if s.holdsConfirmed (s.roomOf k) c then
      s.changeEntry (s.roomOf k) c (Entry.regranted q entitled)
    else
      match s.findEntry c with
      | some (r, e) => (s.removeOldEntry k r e).placeGranted k c q reading atOnce
      | none => s.placeGranted k c q reading atOnce
  (s1.raiseCount q.slot).submit (s1.grantReport k a c q entitled)

/-- The rooms whose entries a grant to these credentials changes: the other rooms that it removes entries
from, in the order of the members, then the door's room (R86, R87). No rule orders the checks of one event in
several rooms: DESIGN CHOICE (notes/assumptions/10.md). -/
def State.roomsTouched (s : State) (k : DoorNo) (cs : List Credential) : List RoomNo :=
  (cs.filterMap fun c => (s.findEntry c).map Prod.fst).filter (· ≠ s.roomOf k) ++ [s.roomOf k]

/-- Stage 6 and the outcome of a single grant (R61 to R64): the door is asked for a release, BUSY denies, and
else the member is withdrawn from any pairing record (R71), the grant applied, GRANT posted, and the rooms
checked. -/
def State.grantSingle (s : State) (k : DoorNo) (a : ReaderNo) (c : Credential) (q : Qualifying)
    (entries : Nat) (reading : Clock) : State :=
  match s.requestRelease k entries with
  | (.busy, _) => s.deny k a c .doorBusy q.carried
  | (answer, s1) =>
    (((s1.withdrawMember c).applyGrant k a c q reading (answer == .takenOpen)).post a
      .grant).superviseAll (s.roomsTouched k [c])

end Sys2Proof.Machine
end

