-- ==== Sys2Proof/Machine/Escort.lean ====
section
/-! DEFINITION. Stage 5 of the entry decision: arrivals at the pairing table (chapter 4.3) and the completion
of a group (chapter 4.4). -/

namespace Sys2Proof.Machine

/-- An arrival handed to the pairing table (chapter 4.1): its door, reader, credential, qualifying permit
and reading. -/
structure Arrival where
  door : DoorNo
  reader : ReaderNo
  credential : Credential
  permit : Qualifying
  reading : Clock
  deriving DecidableEq, Repr

/-- The arrival as a member of a record. -/
def Arrival.member (x : Arrival) : Member :=
  ⟨x.credential, x.permit.slot, x.permit.permit.workOrder⟩

/-- PENDING: WAIT for the reader, and an ENTRY_PENDING record with the number of members after the arrival
(R69). -/
def State.wait (s : State) (x : Arrival) (members : Nat) : State :=
  (s.submit
    { kind := .entryPending, door := some x.door, room := some (s.roomOf x.door)
      reader := some x.reader, credential := some x.credential, slot := some x.permit.slot
      workOrder := some x.permit.permit.workOrder, detail := some members }).post x.reader .wait

/-- A record with an escort alone, opened now (R72, R74, R79). -/
def State.escortRecord (s : State) (m : Member) : PairingRecord :=
  ⟨some m, [], s.now, s.after s.params.pairingWindow⟩

/-- A record with a contractor alone, opened now (R72). -/
def State.contractorRecord (s : State) (m : Member) : PairingRecord :=
  ⟨none, [m], s.now, s.after s.params.pairingWindow⟩

/-- A record takes the arrival: the arrival is withdrawn from any other record, the door's record becomes the
one given, a displaced escort is abandoned, and the arrival waits (R71 to R74). -/
def State.enterRecord (s : State) (x : Arrival) (p : PairingRecord) (displaced : Option Member) :
    State :=
  let s1 := (s.withdrawMember x.credential).setPairing x.door (some p)
  let s2 := match displaced with
    | none => s1
    | some m => s1.submit
        { kind := .pairingAbandoned, door := some x.door, room := some (s.roomOf x.door)
          credential := some m.credential, slot := some m.slot, workOrder := some m.workOrder }
  s2.wait x p.members.length

/-! ## The re-check (R77) -/

/-- The outcome of the re-check of a held member. -/
inductive Recheck where
  | passed (permit : Qualifying)
  | failed (reason : Reason) (permit : Option (Nat × Nat))
  deriving DecidableEq, Repr

/-- Parts 3 and 4 of the re-check, for a member whose permit search succeeded (R77). -/
def State.recheckRoom (s : State) (k : DoorNo) (role : Role) (m : Member) (q : Qualifying) : Recheck :=
  let room := s.roomOf k
  if s.needsHeadEnd room role then .failed .headendOffline q.carried
  else if s.holdsConfirmed room m.credential && (s.room room).settings.passback then
    .failed .passback q.carried
  else .passed q

/-- The re-check of a held member: revocation, the permit search limited to the member's role, online-only,
passback (R77). A failure that names no slot carries the slot and work order the member arrived under. -/
def State.recheck (s : State) (k : DoorNo) (reading : Clock) (role : Role) (m : Member) : Recheck :=
  match s.stage2 m.credential with
  | some r => .failed r (some (m.slot, m.workOrder))
  | none =>
    match s.searchPermits (s.roomOf k) reading
        ((s.slotsOf m.credential).filter fun e => e.2.permit.role == role) with
    | .fails r (some p) => .failed r (some p)
    | .fails r none => .failed r (some (m.slot, m.workOrder))
    | .qualifies q => s.recheckRoom k role m q

/-! ## Completion (R76 to R81) -/

/-- A group member with the permit it is granted under. -/
structure GroupMember where
  credential : Credential
  permit : Qualifying
  deriving DecidableEq, Repr

/-- The held contractors that pass the re-check, in list order (R79). -/
def passedOf (results : List (Member × Recheck)) : List GroupMember :=
  results.filterMap fun x =>
    match x.2 with
    | .passed q => some ⟨x.1.credential, q⟩
    | .failed _ _ => none

/-- The denials of the held contractors that fail, in list order (R79). -/
def State.droppedReports (s : State) (x : Arrival) (results : List (Member × Recheck)) : List Report :=
  results.filterMap fun y =>
    match y.2 with
    | .passed _ => none
    | .failed r p => some (s.denial x.door (some x.reader) y.1.credential r p)

/-- The door's record closes, every listed member is denied with one reason, and the entry reader is told
(R78, R80, R81). -/
def State.denyGroup (s : State) (x : Arrival) (reason : Reason)
    (members : List (Credential × Option (Nat × Nat))) : State :=
  ((s.submitAll (members.map fun m => s.denial x.door (some x.reader) m.1 reason m.2)).setPairing
    x.door none).post x.reader (.deny reason)

/-- Whether the credential holds an entry in a room (R80). -/
def State.entryIn (s : State) (room : RoomNo) (c : Credential) : Bool :=
  match s.findEntry c with
  | some (r, _) => decide (r = room)
  | none => false

/-- Whether the credential holds an entry in another room (R80). -/
def State.entryElsewhere (s : State) (room : RoomNo) (c : Credential) : Bool :=
  match s.findEntry c with
  | some (r, _) => decide (r ≠ room)
  | none => false

/-- The grant is applied to each member of the group in turn (R81). -/
def State.applyGroup (s : State) (x : Arrival) (group : List GroupMember) (atOnce : Bool) : State :=
  group.foldl
    (fun s m => s.applyGrant x.door x.reader m.credential m.permit x.reading atOnce) s

/-- Stage 6 for a group that passed R80 (R81). -/
def State.grantGroup (s : State) (x : Arrival) (group : List GroupMember) : State :=
  let room := s.roomOf x.door
  let references := group.countP fun m => !s.holdsConfirmed room m.credential
  match s.requestRelease x.door references with
  | (.busy, _) => s.denyGroup x .doorBusy (group.map fun m => (m.credential, m.permit.carried))
  | (answer, s1) =>
    let s2 := group.foldl (fun s m => s.withdrawMember m.credential) (s1.setPairing x.door none)
    ((s2.applyGroup x group (answer == .takenOpen)).post x.reader .grant).superviseAll
      (s.roomsTouched x.door (group.map GroupMember.credential))

/-- The group that remains after the re-check is judged against the room and the pool as one unit (R80). -/
def State.judgeGroup (s : State) (x : Arrival) (group : List GroupMember) : State :=
  let room := s.roomOf x.door
  let adds := group.countP fun m => !s.entryIn room m.credential
  let freed := group.countP fun m => s.entryElsewhere room m.credential
  match s.capCheck room adds (adds - freed) with
  | some r => s.denyGroup x r (group.map fun m => (m.credential, m.permit.carried))
  | none => s.grantGroup x group

/-- The completion once the escort stands: the held contractors are re-checked, those that fail are dropped,
and the rest go on. An arriving escort left with no contractor waits in a record of its own (R79). The denials
stand before the PAIRING_ABANDONED record of an arrival that another door's record held (R71), which no rule
orders: DESIGN CHOICE (notes/assumptions/10.md). -/
def State.completeWith (s : State) (x : Arrival) (escort : GroupMember) (held : List Member)
    (arriving : List GroupMember) : State :=
  let results := held.map fun m => (m, s.recheck x.door x.reading .contractor m)
  let s1 := s.submitAll (s.droppedReports x results)
  let contractors := passedOf results ++ arriving
  if contractors.isEmpty then s1.enterRecord x (s1.escortRecord x.member) none
  else s1.judgeGroup x (escort :: contractors)

/-- A completing arrival (R76): a held escort is re-checked first, and when it fails the whole group fails
with its reason (R78). -/
def State.complete (s : State) (x : Arrival) (p : PairingRecord) : State :=
  match p.escort with
  | none => s.completeWith x ⟨x.credential, x.permit⟩ p.contractors []
  | some e =>
    match s.recheck x.door x.reading .escort e with
    | .failed r _ =>
      s.denyGroup x r
        ((p.members.map fun m => (m.credential, some (m.slot, m.workOrder))) ++
          [(x.credential, x.permit.carried)])
    | .passed q => s.completeWith x ⟨e.credential, q⟩ p.contractors [⟨x.credential, x.permit⟩]

/-! ## Arrivals (R72 to R76) -/

/-- An arrival at a door with no record (R72). -/
def State.openRecord (s : State) (x : Arrival) : State :=
  if Config.pairingCapacity ≤ s.openPairings then
    s.deny x.door x.reader x.credential .pairingBusy x.permit.carried
  else
    match x.permit.permit.role with
    | .contractor => s.enterRecord x (s.contractorRecord x.member) none
    | .escort => s.enterRecord x (s.escortRecord x.member) none

/-- An arrival at a door whose record it is not a member of (R73, R74, R76). -/
def State.joinRecord (s : State) (x : Arrival) (p : PairingRecord) : State :=
  match x.permit.permit.role, p.escort with
  | .contractor, none =>
    if p.contractors.length < Config.groupContractors then
      s.enterRecord x { p with contractors := p.contractors ++ [x.member] } none
    else s.deny x.door x.reader x.credential .groupFull x.permit.carried
  | .escort, some displaced => s.enterRecord x (s.escortRecord x.member) (some displaced)
  | .contractor, some _ => s.complete x p
  | .escort, none => s.complete x p

/-- An arrival at the pairing table (chapter 4.3). A member that presents again waits again, and the record
is unchanged (R75). -/
def State.arrive (s : State) (x : Arrival) : State :=
  match s.pairing x.door with
  | none => s.openRecord x
  | some p =>
    if p.has x.credential then s.wait x p.members.length
    else s.joinRecord x p

/-! ## The entry presentation (R43, R60) -/

/-- Stage 5 for a presentation that stage 4 let through with a new entry (R60). -/
def State.stage5 (s : State) (x : Arrival) : State :=
  let room := s.roomOf x.door
  let alone := s.grantSingle x.door x.reader x.credential x.permit 1 x.reading
  match (s.room room).settings.policy with
  | .single => alone
  | .escorted => s.arrive x
  | .escortPresent => if s.escortInside room then alone else s.arrive x

/-- Stages 4 to 6 for a qualifying permit (R56 to R64). -/
def State.decideRoom (s : State) (x : Arrival) : State :=
  match s.stage4 x.door x.credential x.permit.permit.role with
  | .denied r => s.deny x.door x.reader x.credential r x.permit.carried
  | .regrant e => s.regrant x.door x.reader e
  | .overOwn => s.grantSingle x.door x.reader x.credential x.permit 0 x.reading
  | .newEntry => s.stage5 x

/-- An entry presentation, in its six stages (R43, R46 to R65). -/
def State.entryPresentation (s : State) (k : DoorNo) (a : ReaderNo) (c : Credential) : State :=
  match s.stage1 k with
  | some r => s.deny k a c r none
  | none =>
    match s.stage2 c with
    | some r => s.deny k a c r none
    | none =>
      match s.searchPermits (s.roomOf k) s.clock (s.slotsOf c) with
      | .fails r p => s.deny k a c r p
      | .qualifies q => s.decideRoom ⟨k, a, c, q, s.clock⟩

end Sys2Proof.Machine
end

