-- ==== Sys2Proof/Machine/Loop.lean ====
section
/-! DEFINITION. The replies of the reader loop (chapter 9.3): judging a poll, the repeat filter, presentations,
and the exit path (chapter 3.9). -/

namespace Sys2Proof.Machine

/-! ## Exit presentations (R66, R67) -/

/-- The removal of an exit presentation: the credential's entry in the door's room, with an EXIT record of the entry
door (R96) and the presentation's reader (R66), or EXIT_UNMATCHED of the presentation's door and reader (R66). The
door that R66 has the EXIT record carry is read as the entry door of R96 (DEDUCED, notes/assumptions/11.md). -/
def State.exitRemoval (s : State) (k : DoorNo) (a : ReaderNo) (c : Credential) : State :=
  let room := s.roomOf k
  match (s.room room).entryOf c with
  | some e =>
    ((s.dropEntry room e).submit { removalReport .exit room e with reader := some a }).supervise room
  | none =>
    s.submit
      { kind := .exitUnmatched, door := some k, room := some room, reader := some a
        credential := some c }

/-- Whether an exit presentation asks for a release (R67). -/
def State.exitReleases (s : State) (k : DoorNo) : Bool :=
  (s.door k).settings.exitReleases && s.run == .running && (s.door k).mode != .outOfService

/-- An exit presentation: the removal, the indication EXIT, and perhaps a release (R66, R67). -/
def State.exitPresentation (s : State) (k : DoorNo) (a : ReaderNo) (c : Credential) : State :=
  let s1 := (s.exitRemoval k a c).post a .exit
  if s.exitReleases k then (s1.requestRelease k 0).2 else s1

/-! ## Presentations (R43, R44) -/

/-- A presentation from a reader with no in-service door (R44). -/
def State.unassignedPresentation (s : State) (a : ReaderNo) (c : Credential) : State :=
  (s.submit { kind := .unassignedReader, reader := some a, credential := some c }).post a
    (.deny .doorOutOfService)

/-- The decision engine takes a presentation (R43). -/
def State.present (s : State) (a : ReaderNo) (c : Credential) : State :=
  match s.assignment a with
  | some (k, .entry) => s.entryPresentation k a c
  | some (k, .exit) => s.exitPresentation k a c
  | none => s.unassignedPresentation a c

/-! ## The repeat filter (R163) -/

/-- Whether the repeat filter drops a credential at a reader (R163). -/
def State.repeats (s : State) (a : ReaderNo) (c : Credential) : Bool :=
  match (s.reader a).last with
  | some l =>
    l.credential == c && decide (s.now < l.moment + s.params.repeatInterval * Config.second)
  | none => false

/-- The presentation step of a good reply (R162 step 3, R163). -/
def State.readCredential (s : State) (a : ReaderNo) (c : Credential) : State :=
  if s.repeats a c then s
  else (s.modifyReader a fun x => { x with last := some ⟨c, s.now⟩ }).present a c

/-! ## Judging a reply (R159, R162) -/

/-- A good reply is acted on: state, tamper, presentation (R162). -/
def State.goodReply (s : State) (a : ReaderNo) (tamper : Option Bool) (c : Option Credential) :
    State :=
  let s1 := (s.readerHeard a).readerTamper a tamper
  match c with
  | some c => s1.readCredential a c
  | none => s1

/-- The effect of a judged reply on its reader and beyond (R159). -/
def State.actOnReply (s : State) (a : ReaderNo) : ReplyKind → State
  | .runt => s
  | .checkFailure => s.readerMissed a
  | .good tamper c => s.goodReply a tamper c

/-- REPLY_RECEIVED (R159). The poll ends when the reply is judged, and the loop goes on (R157). With no poll
in flight the bytes are discarded. -/
def execReplyReceived (bytes : List Byte) (s : State) : Host.Outcome State Fault Refusal :=
  match s.loop with
  | .poll a _ _ => .next (s.actOnReply a (judgeReply a bytes)).advanceLoop
  | .silent | .quiet _ => .next s

/-- REPLY_WINDOW_EXPIRY (R159, R160). With no poll in flight there is no reply window. -/
def execReplyWindowExpiry (s : State) : Host.Outcome State Fault Refusal :=
  match s.loop with
  | .poll a _ windowEnds => .next ((s.reach windowEnds).readerMissed a).advanceLoop
  | .silent | .quiet _ => .next s

/-- QUIET_INTERVAL_EXPIRY (R157): the round ends, and the next begins; while no address is assigned the loop
is silent and the counter holds. -/
def execQuietIntervalExpiry (s : State) : Host.Outcome State Fault Refusal :=
  match s.loop with
  | .quiet ends =>
    let s1 := s.reach ends
    if s1.anyAssigned then .next s1.endRound.beginRound else .next { s1 with loop := .silent }
  | .silent | .poll _ _ _ => .next s

end Sys2Proof.Machine
end

