-- ==== Sys2Proof/Machine/Controller.lean ====
section
/-! DEFINITION. The controller as a whole (chapter 10) and collection (R185): status and settings, the run
state, responses, frames by their kind byte, the silence timer, resets and power-on. -/

namespace Sys2Proof.Machine

/-! ## READ STATUS, READ SETTINGS, SET CONTROLLER (R174 to R176) -/

/-- What READ STATUS returns (R175). -/
def State.status (s : State) : StatusReport where
  station := s.station
  run := s.run
  link := s.link
  clock := s.clock.state
  queueLength := s.queue.length
  highestPriority := s.highestPriority
  lost := s.lost
  permitSlots := s.permits.length
  exactCount := s.exactList.length
  positionsSet := s.filter.length
  entries := s.totalEntries
  pairings := s.openPairings
  readersOffline := s.readersOffline
  doorsInAlarm := s.doorsInAlarm
  roomsUnescorted := s.roomsUnescorted

/-- READ STATUS (R175). -/
def ownReadStatus (_payload : List Byte) (s : State) : Reply × State :=
  (accept (.status s.status), s)

/-- READ SETTINGS: selector 0 is CONTROLLER and 1 is ROOMS (R176, R177). -/
def ownReadSettings (payload : List Byte) (s : State) : Reply × State :=
  match payload with
  | [selector] =>
    if selector = 0 then (accept (.controller s.params), s)
    else if selector = 1 then (accept (.rooms (sixteen.map fun r => (s.room r).settings)), s)
    else (refuse .badValue, s)
  | _ => (refuse .badLength, s)

/-- SET CONTROLLER (R174). -/
def ownSetController (payload : List Byte) (s : State) : Reply × State :=
  match s.run with
  | .running => (refuse .notStopped, s)
  | .stopped =>
    match paramsOf payload with
    | none => (refuse .badValue, s)
    | some p => (accept (.controller p), { s with params := p })

/-! ## START (R171) -/

/-- The channels in service, ascending (R171). -/
def State.inService (s : State) : List DoorNo :=
  sixteen.filter fun k => (s.door k).settings.inService

/-- The reader addresses that a channel's settings name (R171 check 3). -/
def DoorSettings.addresses (x : DoorSettings) : List ReaderNo :=
  x.entryReader.toList ++ x.exitReader.toList

/-- The lowest reader address that the channels in service name more than once (R171 check 3). -/
def State.repeatedAddress (s : State) : Option ReaderNo :=
  let named := s.inService.flatMap fun k => (s.door k).settings.addresses
  allReaders.find? fun a => decide (2 ≤ named.count a)

/-- The first check of START that fails: its code and the item it names (R171). -/
def State.startFault (s : State) : Option (Nat × Nat) :=
  match s.inService.find? fun k => !(s.room (s.roomOf k)).settings.inUse with
  | some k => some (1, k.val)
  | none =>
    match s.inService.find? fun k => (s.door k).settings.entryReader.isNone with
    | some k => some (2, k.val)
    | none => s.repeatedAddress.map fun a => (3, a.val + 1)

/-- A channel settles at START when it is in service in NORMAL or LOCKDOWN (R142). -/
def State.settleServing (s : State) (k : DoorNo) : State :=
  if (s.door k).serves then s.settleDoor k else s

/-- The controller goes RUNNING: the record, then the doors in ascending order (R171, R142). -/
def State.startRunning (s : State) : State :=
  sixteen.foldl State.settleServing
    (State.submit { s with run := .running } { kind := .controllerStarted })

/-- START (R171). -/
def ownStart (_payload : List Byte) (s : State) : Reply × State :=
  match s.run with
  | .running => (accept .empty, s)
  | .stopped =>
    match s.startFault with
    | some (check, item) => (⟨.configInconsistent, .configFault check item⟩, s)
    | none => (accept .empty, s.startRunning)

/-! ## STOP (R172) -/

/-- The controller goes STOPPED: the record, the pairing cancellations, the NOT_ENTERED removals, and the
doors (R172, R142). -/
def State.stopRunning (s : State) : State :=
  ((State.submit { s with run := .stopped }
    { kind := .controllerStopped }).cancelAllPairings.dropAllReferences).stopDoors

/-- STOP (R172). -/
def ownStop (_payload : List Byte) (s : State) : Reply × State :=
  match s.run with
  | .stopped => (accept .empty, s)
  | .running => (accept .empty, s.stopRunning)

/-! ## RESET and COLLECT -/

/-- RESET: accepted in either run state; the reset itself is taken when its response has been sent (R173). -/
def ownReset (_payload : List Byte) (s : State) : Reply × State := (accept .empty, s)

/-- The number of records a COLLECT asks for (R185). -/
def collectCount (b : Byte) : Nat := min (max b.toNat 1) 8

/-- COLLECT (R185). -/
def ownCollect (payload : List Byte) (s : State) : Reply × State :=
  match payload with
  | [b] =>
    let rest := s.queue.drop (collectCount b)
    (accept (.collected rest.length s.lost (s.queue.take (collectCount b))), { s with queue := rest })
  | _ => (refuse .badLength, s)

/-! ## Frames by their kind byte (R168, R169) -/

/-- The owner that carries out each kind of request (R169 step 5). -/
def ownerOf : RequestKind → List Byte → State → Reply × State
  | .readStatus => ownReadStatus
  | .readSettings => ownReadSettings
  | .setController => ownSetController
  | .start => ownStart
  | .stop => ownStop
  | .reset => ownReset
  | .setTime => ownSetTime
  | .minuteMark => ownMinuteMark
  | .readTime => ownReadTime
  | .openPermitWindow => ownOpenPermitWindow
  | .permitRecord => ownPermitRecord
  | .readPermit => ownReadPermit
  | .suspendPermit => ownSlotState .suspended
  | .resumePermit => ownSlotState .active
  | .writeSchedule => ownWriteSchedule
  | .readSchedule => ownReadSchedule
  | .addHoliday => ownAddHoliday
  | .removeHoliday => ownRemoveHoliday
  | .clearHolidays => ownClearHolidays
  | .readHolidays => ownReadHolidays
  | .revoke => ownRevoke
  | .reinstate => ownReinstate
  | .clearFilter => ownClearFilter
  | .checkCredential => ownCheckCredential
  | .readRevocations => ownReadRevocations
  | .setRoom => ownSetRoom
  | .readRoom => ownReadRoom
  | .clearOccupant => ownClearOccupant
  | .clearRoom => ownClearRoom
  | .setDoor => ownSetDoor
  | .setDoorMode => ownSetDoorMode
  | .releaseDoor => ownReleaseDoor
  | .silence => ownSilence
  | .readDoor => ownReadDoor
  | .setInput => ownSetInput
  | .readInputs => ownReadInputs
  | .readReaders => ownReadReaders
  | .collect => ownCollect

/-- Steps 1 to 3 of R169 for a kind byte that is not in the table: the link, the window, and UNKNOWN_KIND for
an addressed frame. -/
def State.takeUnknown (s : State) (code : Byte) (r : Req) : State :=
  if s.receives r then (s.takeFrame false).respond r code (refuse .unknownKind) else s

/-- Take a request by its kind byte (R169 step 3). -/
def State.takeByKind (s : State) (code : Byte) (r : Req) : State :=
  match kindOfCode code with
  | some k => takeRequest k r (ownerOf k) s
  | none => s.takeUnknown code r

/-- What the trunk interface does with a run of characters: nothing when the checks of R168 discard it, and
else the request it carries (R168, R169). -/
def State.hearFrame (s : State) (bytes : List Byte) : State :=
  if frameTaken s.station bytes then s.takeByKind (kindByteOf bytes) (reqOf bytes) else s

/-- FRAME_DISCARDED (R168): discarded silently. A run of characters that the checks do take is no frame of
this row, and is handled as the request it carries. -/
def execFrameDiscarded (frame : List Byte) (s : State) : Host.Outcome State Fault Refusal :=
  .next (s.hearFrame frame)

/-- UNKNOWN_KIND (R169 step 3). A kind byte that the table holds is no frame of this row, and is handled as
the request it names. -/
def execUnknownKind (kind : Byte) (r : Req) (s : State) : Host.Outcome State Fault Refusal :=
  .next (s.takeByKind kind r)

/-! ## The station straps (R167) -/

/-- The station that the straps give (R167). -/
def stationOf (straps : Byte) : Station :=
  if 1 ≤ straps.toNat ∧ straps.toNat ≤ 250 then .address straps else .broadcastOnly

/-! ## Resets (R173) -/

/-- What caused a reset (R186). -/
inductive ResetCause where
  | pin
  | request
  deriving DecidableEq, Repr

/-- The detail number of CONTROLLER_RESET (R186). -/
def ResetCause.code : ResetCause → Nat
  | .pin => 1
  | .request => 2

/-- The READER_TAMPER_END record of a reader whose tamper flag is set (R166). -/
def State.tamperEnd (s : State) (a : ReaderNo) : List Report :=
  if (s.reader a).tamper then [{ s.readerReport .readerTamperEnd a with detail := some 1 }] else []

/-- A reset of the reader loop: the poll in flight is abandoned, set tamper flags are ended in ascending
address order, and every entry and the round counter return to their power-on values (R166). -/
def State.resetReaders (s : State) : State :=
  { s.submitAll (allReaders.flatMap s.tamperEnd) with
    readers := Vector.replicate 31 .powerOn
    round := 0
    lastPolled := none
    roundReaders := []
    loop := .silent }

/-- A reset is taken (R173): the blocks queue their records in order, and the trunk interface returns to its
values after reset. Polling, scanning and the steady timers are started again apart from this. The removals of
PROVISIONAL entries hand their counts back (R7, R96, R108), although R5 and R9 have a reset leave every daily
count as it was: DESIGN CHOICE (notes/assumptions/27.md). -/
def State.takeReset (s : State) (cause : ResetCause) (straps : Byte) : State :=
  { (s.denyAllPairings.dropAllReferences.stopDoors.resetInputs.resetReaders).submit
      { kind := .controllerReset, detail := some cause.code } with
    station := stationOf straps
    link := .offline
    silence := none
    window := none
    run := .stopped
    sending := false
    responses := [] }

/-- RESET_PIN (R173). The pin is taken once however long it stays held. -/
def execResetPin (straps : Byte) (s : State) : Host.Outcome State Fault Refusal :=
  if s.pinHeld then .next s else .next { s.takeReset .pin straps with pinHeld := true }

/-- RESET_PIN_RELEASE (R173): polling begins with a new round, the scanner's first pass is due, and each
plain input's steady timer starts. A pin that is not held is not released. -/
def execResetPinRelease (s : State) : Host.Outcome State Fault Refusal :=
  if s.pinHeld then
    .next (State.restartLoop { s with pinHeld := false, scanDue := s.now }).beginInputs
  else .next s

/-! ## Responses (R169) -/

/-- RESPONSE_START: the oldest response owed goes on the line (R169). With none owed, none begins. -/
def execResponseStart (s : State) : Host.Outcome State Fault Refusal :=
  if s.responses.isEmpty then .next s else .next { s with sending := true }

/-- Whether a response is the ACCEPTED response to RESET (R173). -/
def Response.startsReset (x : Response) : Bool :=
  x.kind == RequestKind.reset.code && x.result == .accepted

/-- RESPONSE_SENT (R169): the response leaves the line, and the one to RESET is followed by the reset (R173),
after which the scanner keeps the times of its passes: DESIGN CHOICE (notes/assumptions/28.md). With no response
on the line, none is sent. -/
def execResponseSent (straps : Byte) (s : State) : Host.Outcome State Fault Refusal :=
  match s.sending, s.responses with
  | true, x :: rest =>
    let s1 := { s with sending := false, responses := rest }
    if x.startsReset then .next (s1.takeReset .request straps).restartLoop.beginInputs else .next s1
  | _, _ => .next s

/-! ## SILENCE_TIMEOUT (R170) -/

/-- SILENCE_TIMEOUT: the link becomes OFFLINE with LINK_DOWN and the timer stops (R170). The detail number is
the timeout as stored at the expiry: DESIGN CHOICE (notes/assumptions/29.md). A stopped timer gives no
expiry. -/
def execSilenceTimeout (s : State) : Host.Outcome State Fault Refusal :=
  match s.silence with
  | none => .next s
  | some deadline =>
    .next { (s.reach deadline).submit
        { kind := .linkDown, detail := some s.params.silenceTimeout } with
      link := .offline
      silence := none }

/-! ## POWER_ON (R173) -/

/-- The contact of an input at power-on: bit i of `closed` says that input i's is closed. -/
def contactAt (closed : BitVec 32) (i : Nat) : Contact :=
  if closed.getLsbD i then .closed else .opened

/-- POWER_ON (R173): every block takes its power-on values, with the straps and contacts as the pins show
them. No record is queued. -/
def execPowerOn (straps : Byte) (closed : BitVec 32) (s : State) : Host.Outcome State Fault Refusal :=
  .next { State.reset with
    station := stationOf straps
    inputs := Vector.ofFn fun i => .powerOn i.val (contactAt closed i.val)
    pending := s.pending }

def execReadStatus (r : Req) (s : State) : Host.Outcome State Fault Refusal :=
  .next (takeRequest .readStatus r ownReadStatus s)

def execReadSettings (r : Req) (s : State) : Host.Outcome State Fault Refusal :=
  .next (takeRequest .readSettings r ownReadSettings s)

def execSetController (r : Req) (s : State) : Host.Outcome State Fault Refusal :=
  .next (takeRequest .setController r ownSetController s)

def execStart (r : Req) (s : State) : Host.Outcome State Fault Refusal :=
  .next (takeRequest .start r ownStart s)

def execStop (r : Req) (s : State) : Host.Outcome State Fault Refusal :=
  .next (takeRequest .stop r ownStop s)

def execReset (r : Req) (s : State) : Host.Outcome State Fault Refusal :=
  .next (takeRequest .reset r ownReset s)

def execCollect (r : Req) (s : State) : Host.Outcome State Fault Refusal :=
  .next (takeRequest .collect r ownCollect s)

end Sys2Proof.Machine
end

