-- ==== Sys2Proof/Machine/Dispatch.lean ====
section
/-! DEFINITION. The dispatch of the commands: one arm for each row of spec/opcode_table.json. -/

namespace Sys2Proof.Machine

def exec (i : Instr) (s : State) : Host.Outcome State Fault Refusal :=
  match i with
  | .powerOn straps closed => Sys2Proof.Machine.execPowerOn straps closed s
  | .resetPin straps => Sys2Proof.Machine.execResetPin straps s
  | .resetPinRelease => Sys2Proof.Machine.execResetPinRelease s
  | .secondTick => Sys2Proof.Machine.execSecondTick s
  | .frameDiscarded frame => Sys2Proof.Machine.execFrameDiscarded frame s
  | .unknownKind kind req => Sys2Proof.Machine.execUnknownKind kind req s
  | .responseSent straps => Sys2Proof.Machine.execResponseSent straps s
  | .silenceTimeout => Sys2Proof.Machine.execSilenceTimeout s
  | .readStatus req => Sys2Proof.Machine.execReadStatus req s
  | .readSettings req => Sys2Proof.Machine.execReadSettings req s
  | .setController req => Sys2Proof.Machine.execSetController req s
  | .start req => Sys2Proof.Machine.execStart req s
  | .stop req => Sys2Proof.Machine.execStop req s
  | .reset req => Sys2Proof.Machine.execReset req s
  | .setTime req => Sys2Proof.Machine.execSetTime req s
  | .minuteMark req => Sys2Proof.Machine.execMinuteMark req s
  | .readTime req => Sys2Proof.Machine.execReadTime req s
  | .openPermitWindow req => Sys2Proof.Machine.execOpenPermitWindow req s
  | .permitRecord req => Sys2Proof.Machine.execPermitRecord req s
  | .readPermit req => Sys2Proof.Machine.execReadPermit req s
  | .suspendPermit req => Sys2Proof.Machine.execSuspendPermit req s
  | .resumePermit req => Sys2Proof.Machine.execResumePermit req s
  | .writeSchedule req => Sys2Proof.Machine.execWriteSchedule req s
  | .readSchedule req => Sys2Proof.Machine.execReadSchedule req s
  | .addHoliday req => Sys2Proof.Machine.execAddHoliday req s
  | .removeHoliday req => Sys2Proof.Machine.execRemoveHoliday req s
  | .clearHolidays req => Sys2Proof.Machine.execClearHolidays req s
  | .readHolidays req => Sys2Proof.Machine.execReadHolidays req s
  | .revoke req => Sys2Proof.Machine.execRevoke req s
  | .reinstate req => Sys2Proof.Machine.execReinstate req s
  | .clearFilter req => Sys2Proof.Machine.execClearFilter req s
  | .checkCredential req => Sys2Proof.Machine.execCheckCredential req s
  | .readRevocations req => Sys2Proof.Machine.execReadRevocations req s
  | .setRoom req => Sys2Proof.Machine.execSetRoom req s
  | .readRoom req => Sys2Proof.Machine.execReadRoom req s
  | .clearOccupant req => Sys2Proof.Machine.execClearOccupant req s
  | .clearRoom req => Sys2Proof.Machine.execClearRoom req s
  | .setDoor req => Sys2Proof.Machine.execSetDoor req s
  | .setDoorMode req => Sys2Proof.Machine.execSetDoorMode req s
  | .releaseDoor req => Sys2Proof.Machine.execReleaseDoor req s
  | .silence req => Sys2Proof.Machine.execSilence req s
  | .readDoor req => Sys2Proof.Machine.execReadDoor req s
  | .setInput req => Sys2Proof.Machine.execSetInput req s
  | .readInputs req => Sys2Proof.Machine.execReadInputs req s
  | .readReaders req => Sys2Proof.Machine.execReadReaders req s
  | .collect req => Sys2Proof.Machine.execCollect req s
  | .replyReceived reply => Sys2Proof.Machine.execReplyReceived reply s
  | .replyWindowExpiry => Sys2Proof.Machine.execReplyWindowExpiry s
  | .quietIntervalExpiry => Sys2Proof.Machine.execQuietIntervalExpiry s
  | .pairingDeadlineExpiry door => Sys2Proof.Machine.execPairingDeadlineExpiry door s
  | .releaseTimerExpiry door => Sys2Proof.Machine.execReleaseTimerExpiry door s
  | .egressTimerExpiry door => Sys2Proof.Machine.execEgressTimerExpiry door s
  | .openAllowanceExpiry door => Sys2Proof.Machine.execOpenAllowanceExpiry door s
  | .contactChange input contact => Sys2Proof.Machine.execContactChange input contact s
  | .steadyTimerExpiry input => Sys2Proof.Machine.execSteadyTimerExpiry input s
  | .scannerPass values => Sys2Proof.Machine.execScannerPass values s
  | .responseStart => Sys2Proof.Machine.execResponseStart s

end Sys2Proof.Machine
end

