-- ==== Sys2Proof/Machine/Step.lean ====
section
/-! DEFINITION. One step of the part: the command at the front of the queue is taken, or, with none waiting,
one millisecond of elapsed time passes. -/

namespace Sys2Proof.Machine

/-- With no command waiting the part idles: the elapsed-time base goes on by one millisecond, and nothing
else changes (DESIGN CHOICE, notes/assumptions/1.md). -/
def State.idle (s : State) : State := { s with now := s.now + 1 }

/-- One step: the oldest waiting command is taken out of the queue and carried out, whole (the table of
operations and events: each step is indivisible). -/
def step (s : State) : Host.Outcome State Fault Refusal :=
  match s.pending with
  | [] => .next s.idle
  | c :: rest => exec c { s with pending := rest }

/-- The state with a command put at the front of its queue. -/
def State.withCommand (s : State) (c : Instr) : State := { s with pending := c :: s.pending }

/-- The state with the command that a word spells put at the front of its queue; unchanged when it spells
none. -/
def State.withFetchWord (s : State) (nbits w : Nat) : State :=
  match decodeTableWord nbits w with
  | some c => s.withCommand c
  | none => s

end Sys2Proof.Machine
end

