-- ==== Sys2Proof/WellFormed.lean ====
section
/-! DEFINITION. Which terms of `Instr` are commands that the pins, the lines and the timers can give: payloads
within a frame (R177), an unknown kind that is unknown (R178), and runs of at least one character. -/

namespace Sys2Proof

/-- A payload fits a request frame (R177). -/
def Req.fits (r : Req) : Bool := decide (r.payload.length ≤ 240)

/-- Whether a command is well formed. -/
def Instr.wf : Instr → Bool
  | .powerOn _ _ => true
  | .resetPin _ => true
  | .resetPinRelease => true
  | .secondTick => true
  | .frameDiscarded frame => !frame.isEmpty
  | .unknownKind kind r => r.fits && (kindOfCode kind).isNone
  | .responseSent _ => true
  | .silenceTimeout => true
  | .readStatus r => r.fits
  | .readSettings r => r.fits
  | .setController r => r.fits
  | .start r => r.fits
  | .stop r => r.fits
  | .reset r => r.fits
  | .setTime r => r.fits
  | .minuteMark r => r.fits
  | .readTime r => r.fits
  | .openPermitWindow r => r.fits
  | .permitRecord r => r.fits
  | .readPermit r => r.fits
  | .suspendPermit r => r.fits
  | .resumePermit r => r.fits
  | .writeSchedule r => r.fits
  | .readSchedule r => r.fits
  | .addHoliday r => r.fits
  | .removeHoliday r => r.fits
  | .clearHolidays r => r.fits
  | .readHolidays r => r.fits
  | .revoke r => r.fits
  | .reinstate r => r.fits
  | .clearFilter r => r.fits
  | .checkCredential r => r.fits
  | .readRevocations r => r.fits
  | .setRoom r => r.fits
  | .readRoom r => r.fits
  | .clearOccupant r => r.fits
  | .clearRoom r => r.fits
  | .setDoor r => r.fits
  | .setDoorMode r => r.fits
  | .releaseDoor r => r.fits
  | .silence r => r.fits
  | .readDoor r => r.fits
  | .setInput r => r.fits
  | .readInputs r => r.fits
  | .readReaders r => r.fits
  | .collect r => r.fits
  | .replyReceived reply => !reply.isEmpty
  | .replyWindowExpiry => true
  | .quietIntervalExpiry => true
  | .pairingDeadlineExpiry _ => true
  | .releaseTimerExpiry _ => true
  | .egressTimerExpiry _ => true
  | .openAllowanceExpiry _ => true
  | .contactChange _ _ => true
  | .steadyTimerExpiry _ => true
  | .scannerPass _ => true
  | .responseStart => true

end Sys2Proof
end

