-- ==== Sys2Proof/Safety.lean ====
section
/-! DEFINITION. The terms in which statements about the part are made: how a request meets it, the
well-formedness of each block's state, and what it means that a step keeps a property. -/

namespace Sys2Proof.Machine

/-! ## Requests -/

/-- The part takes the frame, and it is addressed to this controller (R168, R169). -/
def State.addressed (s : State) (r : Req) : Prop := s.receives r = true ∧ r.broadcast = false

/-- The part takes the frame, and it is a broadcast (R168, R169). -/
def State.broadcasted (s : State) (r : Req) : Prop := s.receives r = true ∧ r.broadcast = true

/-- The state once the link and the permit window have seen a frame that is not an addressed PERMIT RECORD
(R169 steps 1 and 2). -/
def State.heard (s : State) : State := s.linkHeard.closeWindow

/-- The state with one more response owed (R169). -/
def State.owing (s : State) (code : Byte) (result : ResultCode) (data : ResponseData) : State :=
  { s with responses := s.responses ++ [⟨code, result, data⟩] }

/-! ## Ascending lists and the permit tables (chapter 1) -/

/-- A list is strictly rising. -/
def Rising (l : List Nat) : Prop := l.Pairwise (· < ·)

/-- The permit slots stand in strictly rising slot order, each below 2,048 with a count of at most 15 and a
permit whose credential is not 0 (R1, R2, R6). -/
def permitSlotsWf (table : List (Nat × PermitSlot)) : Prop :=
  Rising (table.map Prod.fst) ∧
    ∀ e ∈ table, e.1 < Config.permitSlots ∧ e.2.count ≤ Config.countMax ∧ e.2.permit.credential ≠ 0

/-- No credential holds two slots with one work order, and none holds more than 8 slots (R3). -/
def permitPairsWf (table : List (Nat × PermitSlot)) : Prop :=
  (table.map fun e => (e.2.permit.credential, e.2.permit.workOrder)).Nodup ∧
    ∀ c : Credential, table.countP (fun e => e.2.permit.credential == c) ≤ Config.slotsPerCredential

/-- The permit table and the permit write window are well formed (R1 to R3, R11). -/
def State.permitsWf (s : State) : Prop :=
  permitSlotsWf s.permits ∧ permitPairsWf s.permits ∧ ∀ w, s.window = some w → w.last < Config.permitSlots

/-- The schedules, the holidays and the revocation block are well formed: at most 8 windows each in range
(R17, R18), at most 32 holidays (R21), at most 256 listed credentials, none of them 0 (R109), and filter
positions below 1,024 (R110), each list strictly rising. -/
def State.tablesWf (s : State) : Prop :=
  (∀ windows ∈ s.schedules.toList, windows.length ≤ 8 ∧ windows.all WeeklyWindow.allowed = true) ∧
    (Rising s.holidays ∧ s.holidays.length ≤ Config.holidayCapacity ∧ ∀ d ∈ s.holidays, d ≤ 36524) ∧
    (s.exactList.Pairwise (· < ·) ∧ s.exactList.length ≤ Config.exactCapacity ∧ 0 ∉ s.exactList) ∧
    (Rising s.filter ∧ ∀ p ∈ s.filter, p < 1024)

/-- A stored permit record has every field in its range (R2). -/
def PermitRecord.inRange (p : PermitRecord) : Prop :=
  (match p.role with
    | .contractor => 1 ≤ p.workOrder ∧ p.workOrder ≤ 999999
    | .escort => p.workOrder = 0) ∧
  p.rooms ≠ 0 ∧ p.firstDay ≤ p.lastDay ∧ p.lastDay ≤ 36524 ∧ (∀ m, p.startMinute = some m → m ≤ 1439) ∧
  (∀ m, p.endMinute = some m → m ≤ 1439) ∧ (p.schedule ≤ 63 ∨ p.schedule = 255) ∧ p.allowance ≤ 15

/-- The number that `n` bytes of a payload from place `i` on spell, most significant byte first (R177). -/
def numberAt (bytes : List Byte) (i n : Nat) : Nat :=
  ((bytes.drop i).take n).foldl (fun x b => x * 256 + b.toNat) 0

/-- The date that the three bytes of a payload from place `i` on spell (R177). -/
def dateAt (bytes : List Byte) (i : Nat) : Date :=
  ⟨numberAt bytes i 1, numberAt bytes (i + 1) 1, numberAt bytes (i + 2) 1⟩

/-- The 23 bytes of a permit record that is offered hold no structural fault (R2). -/
def offerAllowed (fields : List Byte) : Prop :=
  numberAt fields 0 4 ≠ 0 ∧
  (numberAt fields 4 1 = 0 ∧ 1 ≤ numberAt fields 5 3 ∧ numberAt fields 5 3 ≤ 999999 ∨
    numberAt fields 4 1 = 1 ∧ numberAt fields 5 3 = 0) ∧
  numberAt fields 8 2 ≠ 0 ∧ (dateAt fields 10).valid = true ∧ (dateAt fields 13).valid = true ∧
  (dateAt fields 10).dayNumber ≤ (dateAt fields 13).dayNumber ∧
  (numberAt fields 20 1 ≤ 63 ∨ numberAt fields 20 1 = 255) ∧ numberAt fields 21 1 ≤ 1

/-- The record that is stored of the 23 bytes offered, with the clamps of R2. -/
def offerStored (fields : List Byte) (p : PermitRecord) : Prop :=
  let minute (i : Nat) : Option Nat :=
    if numberAt fields i 2 = 0xFFFF then none else some (min (numberAt fields i 2) 1439)
  p.credential.toNat = numberAt fields 0 4 ∧
  p.role = (if numberAt fields 4 1 = 0 then .contractor else .escort) ∧ p.workOrder = numberAt fields 5 3 ∧
  p.rooms.toNat = numberAt fields 8 2 ∧ p.firstDay = (dateAt fields 10).dayNumber ∧
  p.lastDay = (dateAt fields 13).dayNumber ∧ p.startMinute = minute 16 ∧ p.endMinute = minute 18 ∧
  p.schedule = numberAt fields 20 1 ∧
  p.holidayRule = (if numberAt fields 21 1 = 0 then .honour else .ignore) ∧
  p.allowance = min (numberAt fields 22 1) 15

/-! ## Records (chapter 11) -/

/-- At most 1,024 records are queued, each with a priority from 1 to 3, and at most 65,535 are counted as
lost (R182 to R184). -/
def State.queueWf (s : State) : Prop :=
  s.queue.length ≤ Config.queueCapacity ∧ s.lost ≤ Config.lostMax ∧
    ∀ r ∈ s.queue, 1 ≤ r.priority ∧ r.priority ≤ 3

/-! ## Pairing records (chapter 4) -/

/-- A waiting record holds an escort alone, or one to four contractors (R70, R76). -/
def PairingRecord.wf (p : PairingRecord) : Prop :=
  match p.escort with
  | some _ => p.contractors = []
  | none => p.contractors ≠ [] ∧ p.contractors.length ≤ Config.groupContractors

/-- The credentials waiting in the pairing table, door by door. -/
def State.waiting (s : State) : List Credential :=
  sixteen.flatMap fun k => ((s.pairing k).toList.flatMap PairingRecord.members).map Member.credential

/-- The pairing table is well formed: at most 8 records (R70), each well formed, no credential a member
twice (R71), and none open in STOPPED (R83, R172). -/
def State.pairingsWf (s : State) : Prop :=
  s.openPairings ≤ Config.pairingCapacity ∧ (∀ k p, s.pairing k = some p → p.wf) ∧ s.waiting.Nodup ∧
    (s.run = .stopped → ∀ k, s.pairing k = none)

/-! ## Occupancy (chapter 5) -/

/-- Every occupancy entry, room by room. -/
def State.allEntries (s : State) : List Entry := sixteen.flatMap fun r => (s.room r).entries

/-- Every stored permit is in range, and no daily entry count passes an allowance that is not 0 (R2, R6). A slot that
was rewritten since a PROVISIONAL entry of its credential was granted under it, for another work order, has counted no
entry since: otherwise that entry would have been replaced (R7). -/
def State.countsWf (s : State) : Prop :=
  (∀ e ∈ s.permits, e.2.permit.inRange ∧ (e.2.permit.allowance ≠ 0 → e.2.count ≤ e.2.permit.allowance)) ∧
  ∀ e ∈ s.allEntries, e.state = .provisional → ∀ x, s.slot e.slot = some x →
    x.permit.credential = e.credential → x.permit.workOrder ≠ e.workOrder → x.count = 0

/-- At most 128 entries, and at most one of each credential (R92). -/
def State.occupancyWf (s : State) : Prop :=
  s.totalEntries ≤ Config.poolSize ∧ (s.allEntries.map Entry.credential).Nodup

/-- The provisional lists name exactly the PROVISIONAL entries, each once at its entry door (R94, R136). -/
def State.referencesWf (s : State) : Prop :=
  ∀ k, (s.door k).provisional.Nodup ∧
    ∀ c, c ∈ (s.door k).provisional ↔
      ∃ e ∈ s.allEntries, e.credential = c ∧ e.state = .provisional ∧ e.door = k

/-- No room holds more entries than its cap, a room not in use holds none, and while RUNNING every channel in service
names a room in use (R92, R171). -/
def State.capsWf (s : State) : Prop :=
  (∀ r, (s.room r).entries.length ≤ (s.room r).settings.cap ∧
    ((s.room r).settings.inUse = false → (s.room r).entries = [])) ∧
  (s.run = .running → ∀ k, (s.door k).settings.inService = true →
    (s.room (s.roomOf k)).settings.inUse = true)

/-- A room's supervision state is UNESCORTED exactly when the room is unescorted (R86). -/
def State.supervisionWf (s : State) : Prop :=
  ∀ r, (s.room r).supervision = .unescorted ↔ (s.room r).isUnescorted = true

/-! ## Door channels (chapter 7) -/

/-- The level of a channel's lock output: the park level in IDLE, the release level while the release timer
runs, the secure level otherwise (R137). -/
def DoorChannel.lockDue (d : DoorChannel) : LockLevel :=
  if d.state = .idle then d.settings.parkLevel
  else if d.release.isSome then d.settings.lockType.releaseLevel
  else d.settings.lockType.secureLevel

/-- A channel is well formed: no release in IDLE; SECURE with neither timer running and RELEASED with one
(R126); the open allowance runs exactly in OPEN (R131, R133); references only while RELEASED with the release
timer running, at most 8 (R136); the lock output (R137); a sounder only in HELD and FORCED (R138). -/
def DoorChannel.wf (d : DoorChannel) : Prop :=
  (d.state = .idle → d.release = none) ∧
    (d.state = .secure → d.release = none ∧ d.egress = none) ∧
    (d.state = .released → d.release.isSome = true ∨ d.egress.isSome = true) ∧
    (d.allowance.isSome = true ↔ d.state = .opened) ∧
    (d.provisional ≠ [] → d.state = .released ∧ d.release.isSome = true) ∧
    d.provisional.length ≤ Config.referencesPerDoor ∧
    d.lock = d.lockDue ∧
    (d.sounder ≠ .off → d.inAlarm = true)

/-- Every channel is well formed, and is out of IDLE exactly when the controller is RUNNING and the channel is
in service in NORMAL or LOCKDOWN (R124, R125, R142). -/
def State.doorsWf (s : State) : Prop :=
  ∀ k, (s.door k).wf ∧ ((s.door k).state ≠ .idle ↔ s.run = .running ∧ (s.door k).serves = true)

/-! ## Inputs and readers (chapters 8 and 9) -/

/-- An input is well formed: a plain one has no fault and no confirm run, a supervised one no steady timer
(chapter 8.1, R146, R150, R151). -/
def InputLine.wf (x : InputLine) : Prop :=
  match x.mode with
  | .plain =>
    x.fault = .none ∧ x.lastValue = none ∧ x.accepted = none ∧ x.candidate = none ∧ x.run = 0
  | .supervised =>
    x.steady = none ∧ (x.candidate = none ↔ x.run = 0) ∧
      x.fault = (x.accepted.map LineClass.fault).getD .none

/-- Every input is well formed. -/
def State.inputsWf (s : State) : Prop := ∀ i, (s.input i).wf

/-- A reader entry is well formed: at most 8 misses, OFFLINE exactly at 8, and no indication pending in
OFFLINE (R160, R164). -/
def Reader.wf (x : Reader) : Prop :=
  x.misses ≤ 8 ∧ (x.state = .offline ↔ x.misses = 8) ∧ (x.state = .offline → x.pending = none)

/-- The loop is well formed: every entry is, and the round counter is from 0 to 7 (R157, R160). -/
def State.readersWf (s : State) : Prop := (∀ a, (s.reader a).wf) ∧ s.round < 8

/-- While the reset pin stays held, no response is owed or on the line, no poll or quiet interval runs, and no
steady timer runs (R173). -/
def State.pinWf (s : State) : Prop :=
  s.pinHeld = true →
    s.responses = [] ∧ s.sending = false ∧ s.loop = .silent ∧ s.run = .stopped ∧
      ∀ i, (s.input i).steady = none

/-- The silence timer runs exactly while the link is ONLINE (R170). -/
def State.linkWf (s : State) : Prop := s.silence.isSome = true ↔ s.link = .online

/-! ## Settings -/

/-- The settings that only a STOPPED controller takes (R90, R121, R146, R174). -/
structure Settings where
  params : Params
  rooms : List RoomSettings
  doors : List DoorSettings
  inputs : List (InputMode × Polarity)
  deriving DecidableEq, Repr

/-- The settings that the part holds. -/
def State.settings (s : State) : Settings where
  params := s.params
  rooms := s.rooms.toList.map Room.settings
  doors := s.doors.toList.map DoorChannel.settings
  inputs := s.inputs.toList.map fun x => (x.mode, x.polarity)

/-- Every controller parameter and every room and door setting is in its range: the thresholds strictly increasing
(R149, R174), the caps and graces (R90), and the release times and open allowances (R121). -/
def State.rangesWf (s : State) : Prop :=
  let p := s.params
  (5 ≤ p.pairingWindow ∧ p.pairingWindow ≤ 60 ∧ p.repeatInterval ≤ 10 ∧ 10 ≤ p.silenceTimeout ∧
    p.silenceTimeout ≤ 600 ∧ 1 ≤ p.confirmCount ∧ p.confirmCount ≤ 4 ∧ 1 ≤ p.shortThreshold ∧
    p.shortThreshold < p.normalTop ∧ p.normalTop < p.activeThreshold ∧ p.activeThreshold < p.openThreshold ∧
    p.openThreshold ≤ 1023) ∧
  (∀ q, 1 ≤ (s.room q).settings.cap ∧ (s.room q).settings.cap ≤ 32 ∧ (s.room q).settings.grace ≤ 240) ∧
  ∀ k, 1 ≤ (s.door k).settings.releaseTime ∧ (s.door k).settings.releaseTime ≤ 60 ∧
    5 ≤ (s.door k).settings.openAllowance ∧ (s.door k).settings.openAllowance ≤ 600

/-! ## Records of an event -/

/-- The denials of the members of a door's pairing record with PAIRING_CANCELLED, escort first and then the
contractors in list order (R83, R84). -/
def State.cancelReports (s : State) (k : DoorNo) : List Report :=
  (s.pairing k).toList.flatMap fun p =>
    (p.escort.toList ++ p.contractors).map fun m =>
      { kind := .entryDenied, door := some k, room := some (s.door k).settings.room
        reader := (s.door k).settings.entryReader, credential := some m.credential
        slot := some m.slot, workOrder := some m.workOrder, reason := some .pairingCancelled }

/-- The NOT_ENTERED records of the entries that wait on a door's release, in reference order (R96, R97). -/
def State.notEnteredReports (s : State) (k : DoorNo) : List Report :=
  (s.door k).provisional.filterMap fun c =>
    (s.findEntry c).map fun x =>
      { kind := .notEntered, door := some k, room := some x.1, credential := some c
        slot := some x.2.slot, workOrder := some x.2.workOrder }

/-- The end record of a door in HELD or FORCED that goes IDLE, with detail number 1 (R124, R142). -/
def State.alarmReports (s : State) (k : DoorNo) : List Report :=
  match (s.door k).state with
  | .held => [{ kind := .doorHeldEnd, door := some k, room := some (s.door k).settings.room, detail := some 1 }]
  | .forced =>
    [{ kind := .doorForcedEnd, door := some k, room := some (s.door k).settings.room, detail := some 1 }]
  | .idle | .secure | .released | .opened => []

/-- The records of a reset, in the order of R173. -/
def State.resetReports (s : State) (cause : Nat) : List Report :=
  sixteen.flatMap s.cancelReports ++ sixteen.flatMap s.notEnteredReports ++ sixteen.flatMap s.alarmReports ++
    ((allInputs.filter fun i => (s.input i).fault ≠ .none).map fun i =>
      { kind := .inputFaultEnd, door := some (doorOfInput i), room := some (s.roomOf (doorOfInput i))
        detail := some (i.val * 10 + 5) }) ++
    ((allReaders.filter fun a => (s.reader a).tamper).map fun a =>
      { kind := .readerTamperEnd, reader := some a, door := (s.assignment a).map Prod.fst
        room := (s.assignment a).map fun x => s.roomOf x.1, detail := some 1 }) ++
    [{ kind := .controllerReset, detail := some cause }]

/-- A reader is told: the indication is pending for it, or the poll in flight carries it (R158, R164). -/
def State.tells (t : State) (a : ReaderNo) (ind : Indication) : Prop :=
  (t.reader a).pending = some ind ∨ ∃ ends, t.loop = .poll a (some ind) ends

/-- An indication posted for a reader becomes its pending indication: the reader is assigned, and PENDING or ONLINE
(R164). -/
def State.reaches (s : State) (a : ReaderNo) : Bool := (s.assignment a).isSome && (s.reader a).state != .offline

/-- The OVERSTAY records of a minute signal of absolute minute `minute`, in ascending room number and list order
(R101, R102). -/
def State.overstayReports (s : State) (minute : Nat) : List Report :=
  sixteen.flatMap fun q => ((s.room q).entries.filter fun e =>
    e.state == .confirmed && !e.overstay &&
      e.entitled.any fun u => decide (u + (s.room q).settings.grace ≤ minute)).map fun e =>
    { kind := .overstay, door := some e.door, room := some q, credential := some e.credential
      slot := some e.slot, workOrder := some e.workOrder, detail := e.entitled }

/-- What a minute signal of absolute minute `minute` leaves of a state `s`, in a state `t` that holds the new time
(R101, R102). -/
def State.overstaysMarked (s : State) (minute : Nat) (t : State) : Prop :=
  (∀ q, (t.room q).entries = (s.room q).entries.map fun e =>
    if e.state = .confirmed ∧ e.overstay = false ∧
        (∃ u, e.entitled = some u ∧ u + (s.room q).settings.grace ≤ minute)
    then { e with overstay := true } else e) ∧
  (∀ q, (t.room q).settings = (s.room q).settings ∧ (t.room q).supervision = (s.room q).supervision) ∧
  t.queue = (State.submitAll { s with clock := t.clock } (s.overstayReports minute)).queue

/-! ## Supervision (R86) -/

/-- The number of CONFIRMED entries of a role in a room. -/
def State.confirmedIn (s : State) (q : RoomNo) (role : Role) : Nat :=
  (s.room q).entries.countP fun e => e.state == .confirmed && e.role == role

/-- A room is unescorted: lone work is barred, and there is a CONFIRMED contractor and no CONFIRMED escort. -/
def State.leftAlone (s : State) (q : RoomNo) : Bool :=
  (s.room q).settings.loneBarred && decide (0 < s.confirmedIn q .contractor) &&
    decide (s.confirmedIn q .escort = 0)

/-- The record of the supervision check that a room has when an event has brought the part from `s` to `t`. -/
def State.checkReport (s t : State) (q : RoomNo) : List Report :=
  match (s.room q).supervision, t.leftAlone q with
  | .clear, true => [{ kind := .unescorted, room := some q, detail := some (t.confirmedIn q .contractor) }]
  | .unescorted, false => [{ kind := .escortRestored, room := some q, detail := some (t.confirmedIn q .escort) }]
  | .clear, false => []
  | .unescorted, true => []

/-! ## Counts handed back (R7) -/

/-- The PROVISIONAL entries that wait on a door's release. -/
def State.waitingAt (s : State) (k : DoorNo) : List Entry :=
  s.allEntries.filter fun e => e.state == .provisional && e.door == k

/-- What slot `n` holds once the counts of removed entries are handed back: one less for each that names the slot
with the credential and the work order that the slot holds, and never below 0 (R7; for a count that stopped at 15 the
model's choice, notes/assumptions/35.md). -/
def handedBack (removed : List Entry) (n : Nat) (p : PermitSlot) : PermitSlot :=
  { p with count := p.count - removed.countP fun e =>
      e.slot == n && e.credential == p.permit.credential && e.workOrder == p.permit.workOrder }

/-! ## Presentations (chapters 3 and 4) -/

/-- A presentation of `c` that reader `a` has not just repeated, at the entry side of door `k`, passes stages 1 to 3
with the permit `q`, and needs no head-end that is missing (R43 to R56, R163). -/
def State.qualifiesAt (s : State) (a : ReaderNo) (k : DoorNo) (c : Credential) (q : Qualifying) : Prop :=
  (∃ ind ends, s.loop = .poll a ind ends) ∧ s.assignment a = some (k, .entry) ∧ s.repeats a c = false ∧
    (s.reader a).state ≠ .offline ∧ s.stage1 k = none ∧ s.stage2 c = none ∧
    s.searchPermits (s.roomOf k) s.clock (s.slotsOf c) = .qualifies q ∧
    s.needsHeadEnd (s.roomOf k) q.permit.role = false

/-- How deep a check of a permit a reason stands for (R54). -/
def depthOf : Reason → Nat
  | .suspended => 1
  | .wrongRoom => 2
  | .notYet | .expired => 3
  | .holiday => 4
  | .outsideHours => 5
  | .allowanceUsed => 6
  | _ => 0

/-- A new entry of `c` at door `k` passes the cap check for itself: with no entry, with one in another room, or with
a PROVISIONAL one at another door of the room (R57, R59). -/
def State.mayEnter (s : State) (k : DoorNo) (c : Credential) : Prop :=
  let room := s.roomOf k
  let cap := (s.room room).settings.cap
  (s.findEntry c = none ∧ s.entryCount room < cap ∧ s.totalEntries < 128) ∨
    ∃ r e, s.findEntry c = some (r, e) ∧ ((r ≠ room ∧ s.entryCount room < cap) ∨
      (r = room ∧ e.state = .provisional ∧ e.door ≠ k ∧ s.entryCount room ≤ cap))

/-- A CONFIRMED escort is in the room. -/
def State.escorted (s : State) (q : RoomNo) : Prop :=
  ∃ e ∈ (s.room q).entries, e.state = .confirmed ∧ e.role = .escort

/-- The room's policy grants an arrival alone (R60). -/
def State.grantsAlone (s : State) (q : RoomNo) : Prop :=
  (s.room q).settings.policy = .single ∨ ((s.room q).settings.policy = .escortPresent ∧ s.escorted q)

/-- The room's policy hands an arrival to the pairing table (R60). -/
def State.pairsUp (s : State) (q : RoomNo) : Prop :=
  (s.room q).settings.policy = .escorted ∨ ((s.room q).settings.policy = .escortPresent ∧ ¬s.escorted q)

/-- The pairing record of a door once a credential has left it; a record left with no member is closed (R71, R85). -/
def State.pairingWithout (s : State) (c : Credential) (k : DoorNo) : Option PairingRecord :=
  (s.pairing k).bind fun p =>
    let escort := p.escort.filter fun m => m.credential ≠ c
    let contractors := p.contractors.filter fun m => m.credential ≠ c
    if escort = none ∧ contractors = [] then none
    else some { p with escort := escort, contractors := contractors }

/-- The PAIRING_ABANDONED record of a credential that leaves the record it waits in (R71). -/
def State.abandonedReports (s : State) (c : Credential) : List Report :=
  sixteen.flatMap fun k => (s.pairing k).toList.flatMap fun p =>
    ((p.escort.toList ++ p.contractors).filter fun m => m.credential = c).map fun m =>
      { kind := .pairingAbandoned, door := some k, room := some (s.roomOf k), credential := some c
        slot := some m.slot, workOrder := some m.workOrder }

/-- The ENTRY_DENIED record of a credential at a door and its reader, with a slot and work order (R65). -/
def State.deniedReport (s : State) (k : DoorNo) (a : ReaderNo) (reason : Reason) (c : Credential)
    (slot workOrder : Nat) : Report :=
  { kind := .entryDenied, door := some k, room := some (s.roomOf k), reader := some a, credential := some c
    slot := some slot, workOrder := some workOrder, reason := some reason }

/-! ## Doors -/

/-- A channel out of IDLE whose release is started, with a list that has room (R127, R137). -/
def DoorChannel.releasing (d : DoorChannel) (now : Nat) : DoorChannel :=
  { d with
    release := some (now + d.settings.releaseTime * 1000)
    lock := d.settings.lockType.releaseLevel
    state := if d.state = .secure then .released else d.state
    allowance := if d.state = .opened then some (now + d.settings.openAllowance * 1000) else d.allowance }

/-- A channel that comes into service and settles from a level of its door-position input (R125). -/
def DoorChannel.settled (d : DoorChannel) (level : Level) (now : Nat) : DoorChannel :=
  if level = .active then
    { d with
      lock := d.settings.lockType.secureLevel
      state := .opened
      allowance := some (now + d.settings.openAllowance * 1000) }
  else
    { d with
      lock := d.settings.lockType.secureLevel
      state := if d.release = none ∧ d.egress = none then .secure else .released }

/-! ## Resets -/

/-- A channel that is out of service with its timers stopped, its list empty, its sounder OFF and its lock at
the park level (R142). -/
def DoorChannel.parked (d : DoorChannel) : DoorChannel where
  settings := d.settings
  mode := d.mode
  state := .idle
  release := none
  egress := none
  allowance := none
  provisional := []
  sounder := .off
  lock := d.settings.parkLevel

/-- What a state `t` right after a reset of `s` holds, with the cause's number and the straps as they then are
(R84, R108, R142, R155, R166, R167, R173, R186). Daily counts are not part of it (notes/assumptions/27.md). The
responses owed are dropped: the model's choice (notes/assumptions/3.md). -/
def State.resetTo (s : State) (cause : Nat) (straps : Byte) (t : State) : Prop :=
  (t.run = .stopped ∧ t.link = .offline ∧ t.silence = none ∧ t.window = none ∧ t.sending = false ∧
    t.responses = [] ∧
    t.station = if 1 ≤ straps.toNat ∧ straps.toNat ≤ 250 then .address straps else .broadcastOnly) ∧
  (∀ k, t.pairing k = none) ∧ (∀ k, t.door k = (s.door k).parked) ∧
  (∀ q, (t.room q).entries = ((s.room q).entries.filter fun e => e.state == .confirmed) ∧
    (t.room q).supervision = (s.room q).supervision) ∧
  (∀ a, t.reader a = .powerOn) ∧ t.round = 0 ∧ t.queue = (s.submitAll (s.resetReports cause)).queue ∧
  (t.settings = s.settings ∧ t.clock = s.clock ∧ t.nextTick = s.nextTick ∧ t.schedules = s.schedules ∧
    t.holidays = s.holidays ∧ t.exactList = s.exactList ∧ t.filter = s.filter) ∧
  ∀ n, (t.slot n).map (fun p => (p.state, p.permit)) = (s.slot n).map fun p => (p.state, p.permit)

/-! ## Steps -/

/-- A property that every step keeps. -/
def Kept (P : State → Prop) : Prop := ∀ s t : State, P s → step s = .next t → P t

end Sys2Proof.Machine
end

