-- ==== Sys2Proof/Certificates/Slice0/Obligations.lean ====
section
/-! DEFINITION. The statements about the PR16 that the provers are given. Each docstring names the rules of spec/
that its statement rests on. A request `r` is `addressed` or `broadcasted` to a state when the part takes it so
(R168, R169); `s.heard` is the state after steps 1 and 2 of R169; `u.owing code result data` is `u` with that
response owed as well; `u.submit x` is `u` with the record `x` submitted (R181 to R184). -/

open Sys2Proof Sys2Proof.Machine

/-! ## The machine -/

/-- A step carries out the command at the front of the queue with the queue's rest. On an empty queue one
millisecond passes: that second clause is the model's choice (notes/assumptions/1.md). -/
def Obligations.StepTakesFrontCommand : Prop :=
  (∀ (c : Instr) (s : State), step (s.withCommand c) = exec c s) ∧
    ∀ s : State, s.pending = [] → step s = .next { s with now := s.now + 1 }

/-- Every command completes in every state, and the commands that wait stay as they are. That nothing stops the
part, and that an event whose cause is absent does nothing, are the model's deductions (notes/assumptions/23.md and
20.md; R126 has a stopped timer give no expiry); that POWER_ON keeps the waiting commands is its choice
(notes/assumptions/18.md). -/
def Obligations.EveryCommandCompletes : Prop :=
  ∀ (c : Instr) (s : State), ∃ t : State, exec c s = .next t ∧ t.pending = s.pending

/-! ## Frames (R168, R169, R177 to R180) -/

/-- The frame of a request, of any kind and with any payload that fits, is read back as that request by the
station it is sent to (R168, R177, R178, R180). -/
def Obligations.RequestFramesRoundTrip : Prop :=
  ∀ (n : Byte) (k : RequestKind) (r : Req), 1 ≤ n.toNat → n.toNat ≤ 250 → r.fits = true →
    decodeFrame (.address n) (encodeRequest n k r) = k.command r

/-- FRAME_DISCARDED: a run of characters that fails one of the four checks changes nothing (R168). One that
passes them is handled as the request it carries (R168, R169); that this holds whichever row it is given under is
the model's choice (notes/assumptions/8.md). -/
def Obligations.FramesAreJudged : Prop :=
  (∀ (bytes : List Byte) (s : State),
      (bytes.length < 5 ∨ (bytes.getD 0 0).toNat ≠ bytes.length ∨ crcChecks bytes = false ∨
        (bytes.getD 1 0 ≠ 255 ∧ s.station ≠ .address (bytes.getD 1 0))) →
      exec (.frameDiscarded bytes) s = .next s) ∧
  ((∀ (bytes : List Byte) (s : State),
      exec (.frameDiscarded bytes) s = exec (decodeFrame s.station bytes) s) ∧
    ∀ (k : RequestKind) (r : Req) (s : State), exec (.unknownKind k.code r) s = exec (k.command r) s)

/-- UNKNOWN_KIND: a kind byte outside the table is refused, after the link and the window (R169 step 3). A payload
of a length that the table does not allow is refused with BAD_LENGTH when addressed, and heard and no more when
broadcast; an addressed PERMIT RECORD leaves an open permit window as it was (R169 step 4, R178, R14). That these
refusals carry no data, of a PERMIT RECORD or of a REVOKE too, is the model's deduction (notes/assumptions/16.md
and 30.md). -/
def Obligations.FaultyRequestsAreRefused : Prop :=
  (∀ (code : Byte) (r : Req) (s : State), kindOfCode code = none →
      (s.addressed r → exec (.unknownKind code r) s = .next (s.heard.owing code .unknownKind .empty)) ∧
      (s.broadcasted r → exec (.unknownKind code r) s = .next s.heard)) ∧
  (∀ (k : RequestKind) (r : Req) (s : State), k.allows r.payload = false →
      (s.addressed r → k ≠ .permitRecord →
        exec (k.command r) s = .next (s.heard.owing k.code .badLength .empty)) ∧
      (s.addressed r → k = .permitRecord →
        exec (k.command r) s = .next (s.linkHeard.owing k.code .badLength .empty)) ∧
      (s.broadcasted r → exec (k.command r) s = .next s.heard))

/-- While a response is on the line, while the reset pin is held, and for an addressed frame at a BROADCAST_ONLY
station, no request of any kind does anything (R167, R168, R173). A broadcast of a kind outside the twelve that
a broadcast carries out is heard and no more (chapter 10.3, requests by run state and by broadcast). -/
def Obligations.SomeRequestsAreNotCarriedOut : Prop :=
  (∀ (k : RequestKind) (r : Req) (s : State),
      (s.sending = true ∨ s.pinHeld = true ∨ (r.broadcast = false ∧ s.station = .broadcastOnly)) →
      exec (k.command r) s = .next s) ∧
  (∀ (k : RequestKind) (r : Req) (s : State), s.broadcasted r →
      k ∉ [.start, .stop, .setTime, .minuteMark, .writeSchedule, .addHoliday, .removeHoliday, .clearHolidays,
        .revoke, .reinstate, .clearFilter, .setDoorMode] →
      exec (k.command r) s = .next s.heard)

/-! ## The link and the permit window (R14, R170) -/

/-- Every frame taken makes the link ONLINE and restarts the silence timer with the timeout stored before it; an
OFFLINE link queues LINK_UP first (R169 step 1, R170). Any request taken but an addressed PERMIT RECORD leaves
the permit window CLOSED, unless it opens one itself (R14). SILENCE_TIMEOUT: the link becomes OFFLINE, LINK_DOWN
carries the silence timeout in seconds, and the timer stops; a stopped timer gives no expiry (R170). That the
detail number is the timeout as stored at the expiry, and the elapsed time that an expiry leaves, are the model's
choices (notes/assumptions/29.md and 1.md). -/
def Obligations.FramesKeepTheLink : Prop :=
  ((∀ s : State, s.link = .online →
      s.heard = { s with silence := some (s.now + s.params.silenceTimeout * 1000), window := none }) ∧
    (∀ s : State, s.link = .offline →
      s.heard = { s.submit { kind := .linkUp } with
        link := .online, silence := some (s.now + s.params.silenceTimeout * 1000), window := none }) ∧
    ∀ (k : RequestKind) (r : Req) (s : State), s.receives r = true →
      ∃ t : State, exec (k.command r) s = .next t ∧ t.link = .online ∧
        t.silence = some (s.now + s.params.silenceTimeout * 1000)) ∧
  (∀ (k : RequestKind) (r : Req) (s : State), s.receives r = true →
      (k ≠ .permitRecord ∨ r.broadcast = true) → k ≠ .openPermitWindow →
      ∃ t : State, exec (k.command r) s = .next t ∧ t.window = none) ∧
  ∀ s : State,
    (∀ deadline, s.silence = some deadline →
      exec .silenceTimeout s = .next
        { (State.submit { s with now := max s.now deadline }
            { kind := .linkDown, detail := some s.params.silenceTimeout }) with
          link := .offline, silence := none }) ∧
    (s.silence = none → exec .silenceTimeout s = .next s)

/-- A body closed by its CRC checks, two other bytes at its end do not, and the CRC of the digits 1 to 9 is 29B1h
(R180). The frames that the part sends: while a response is on the trunk, its frame has its length, the station, the
request's kind plus 80h, the result code, the payload and the CRC, and the results are numbered in the order of R178
(R169, R177, R178, R180). A poll is a frame of 6 bytes for its reader; two polls differ when their readers or their
indications do, and indications and reasons are numbered as R179 gives (R158, R179, R180). -/
def Obligations.SentFramesAreFormed : Prop :=
  ((∀ body : List Byte, crcChecks (withCrc body) = true) ∧
    (∀ (body : List Byte) (a b : Byte),
      crcChecks (body ++ [a, b]) = true ↔ [a, b] = bytesOf16 (crc16 body)) ∧
    crc16 [0x31, 0x32, 0x33, 0x34, 0x35, 0x36, 0x37, 0x38, 0x39] = 0x29B1#16) ∧
  (∀ (s : State) (n : Byte) (x : Response) (rest : List Response), s.station = .address n → s.sending = true →
      s.responses = x :: rest →
      ∃ frame, s.trunkFrame = some frame ∧ frame.length = x.data.payload.length + 6 ∧ frame.length ≤ 246 ∧
        frame.take 4 = [byteOf frame.length, n, x.kind + 0x80, x.result.code] ∧
        (frame.drop 4).take (frame.length - 6) = x.data.payload ∧ crcChecks frame = true) ∧
  (∀ s : State, s.sending = false → s.trunkFrame = none) ∧
  (∀ check item : Nat, (ResponseData.configFault check item).payload = [byteOf check, byteOf item]) ∧
  ([ResultCode.accepted, .unknownKind, .badLength, .badValue, .notStopped, .notRunning, .clockUnset, .tableFull,
      .duplicate, .credentialLimit, .notFound, .windowClosed, .windowEnd, .filtered, .roomOccupied,
      .configInconsistent].map ResultCode.code = (List.range 16).map byteOf) ∧
  (∀ (s : State) (a : ReaderNo) (ind : Option Indication) (ends : Nat), s.loop = .poll a ind ends →
      ∃ frame, s.loopFrame = some frame ∧ frame.length = 6 ∧ frame.take 2 = [6, byteOf (a.val + 1)] ∧
        frame.getD 2 0 = (match ind with
          | none => 0
          | some .grant => 1
          | some (.deny _) => 2
          | some .wait => 3
          | some .exit => 4) ∧
        ((∀ reason, ind ≠ some (.deny reason)) → frame.getD 3 0 = 0) ∧ crcChecks frame = true) ∧
  (∀ (a b : ReaderNo) (i j : Option Indication), pollOf a i = pollOf b j → a = b ∧ i = j) ∧
  ([Reason.notRunning, .doorOutOfService, .lockdown, .doorFault, .revoked, .revokedFilter, .unknownCredential,
      .clockUnset, .suspended, .wrongRoom, .notYet, .expired, .holiday, .outsideHours, .allowanceUsed,
      .headendOffline, .passback, .roomFull, .occupancyFull, .groupFull, .pairingBusy, .pairingTimeout,
      .pairingCancelled, .doorBusy].map (fun reason => (pollOf 0 (some (.deny reason))).getD 3 0) =
    (List.range' 1 24).map byteOf)

/-- How values travel in responses (R177): numbers of several bytes most significant first; enumerated values
numbered from 0 in the order of the tables that list them, the none of a supervised input's classes and of a pending
indication after the others; yes 1 and no 0; a date as year offset, month and day; an absent start or end minute as
FFFFh and an absent exit reader as FFh; a room set with the bit of value 2 to the power n for room n; and a stored
permit record as PERMIT RECORD carries it. A denial reason, in a record as in an indication, has the code of the
reader's DENY, which R179 counts from 1: that this code, and not R177's count from 0, stands in responses is the
model's deduction from chapter 3.8, as are the order and widths of a response's fields (notes/assumptions/31.md). -/
def Obligations.ResponseValuesAreEncoded : Prop :=
  let counted (bytes : List Byte) : Prop := bytes = (List.range bytes.length).map byteOf
  (∀ width n : Nat, n < 256 ^ width →
    (bytesOf width n).length = width ∧ (bytesOf width n).foldl (fun x b => x * 256 + b.toNat) 0 = n) ∧
  (counted ([RunState.stopped, .running].map RunState.byte) ∧
    counted ([LinkState.online, .offline].map LinkState.byte) ∧
    counted ([ClockState.set, .unset].map ClockState.byte) ∧
    counted (SlotReport.free.bytes ++ [SlotState.active, .suspended].map SlotState.byte) ∧
    counted ([Role.contractor, .escort].map Role.byte) ∧
    counted ([HolidayRule.honour, .ignore].map HolidayRule.byte) ∧
    counted ([EntryPolicy.single, .escorted, .escortPresent].map EntryPolicy.byte) ∧
    counted ([EntryState.provisional, .confirmed].map EntryState.byte) ∧
    counted ([Supervision.clear, .unescorted].map Supervision.byte) ∧
    counted ([RevocationAnswer.exact, .filter, .clear].map RevocationAnswer.byte) ∧
    counted ([Placement.exact, .filter].map Placement.byte) ∧
    counted ([EntryFate.removed, .flagged, .alreadyFlagged, .notFound].map EntryFate.byte) ∧
    counted ([LockType.failSecure, .failSafe].map LockType.byte) ∧
    counted ([LockLevel.energised, .deEnergised].map LockLevel.byte) ∧
    counted ([DoorMode.normal, .lockdown, .outOfService].map fun m => byteOf m.number) ∧
    counted ([DoorState.idle, .secure, .released, .opened, .held, .forced].map DoorState.byte) ∧
    counted ([Sounder.off, .on, .silenced].map Sounder.byte) ∧
    counted ([InputMode.plain, .supervised].map InputMode.byte) ∧
    counted ([Polarity.normallyClosed, .normallyOpen].map Polarity.byte) ∧
    counted ([Level.normal, .active, .unclassified].map Level.byte) ∧
    counted ([FaultState.none, .short, .cut].map FaultState.byte) ∧
    counted ([some LineClass.normal, some .active, some .short, some .cut, none].map lineClassByte) ∧
    counted ([ReaderState.pending, .online, .offline].map ReaderState.byte) ∧
    counted ([Direction.entry, .exit].map Direction.byte) ∧
    counted ([UnsetPolicy.deny, .dateless].map UnsetPolicy.byte) ∧
    counted ([CheckTime.off, .ms10, .ms20, .ms50, .ms100, .ms250].map CheckTime.byte) ∧
    [Reason.notRunning, .doorOutOfService, .lockdown, .doorFault, .revoked, .revokedFilter,
      .unknownCredential, .clockUnset, .suspended, .wrongRoom, .notYet, .expired, .holiday, .outsideHours,
      .allowanceUsed, .headendOffline, .passback, .roomFull, .occupancyFull, .groupFull, .pairingBusy,
      .pairingTimeout, .pairingCancelled, .doorBusy].map Reason.byte = (List.range' 1 24).map byteOf ∧
    (∀ (a : ReaderNo) (reason : Reason), (pollOf a (some (.deny reason))).getD 3 0 = reason.byte) ∧
    ∀ reason, indicationBytes (some .grant) = [0] ∧ indicationBytes (some (.deny reason)) = [1, reason.byte] ∧
      indicationBytes (some .wait) = [2] ∧ indicationBytes (some .exit) = [3] ∧ indicationBytes none = [4]) ∧
  (byteOfYesNo true = 1 ∧ byteOfYesNo false = 0 ∧
    (∀ d : Date, (ResponseData.holidays [d]).bytes = [1, byteOf d.year, byteOf d.month, byteOf d.day]) ∧
    ∀ (k : DoorNo) (x : DoorSettings), x.exitReader = none → (ResponseData.doorStored k x).bytes.getD 4 0 = 0xFF) ∧
  ∀ (st : SlotState) (p : PermitRecord) (count : Nat),
    let payload := (ResponseData.permit (.held st p.report count)).payload
    payload = st.byte :: p.bytes.tail ++ [byteOf count] ∧
    (∀ n < 16, (numberOf ((payload.drop 9).take 2)).testBit n = p.rooms.getLsbD n) ∧
    (p.startMinute = none → (payload.drop 17).take 2 = [0xFF, 0xFF]) ∧
    (p.endMinute = none → (payload.drop 19).take 2 = [0xFF, 0xFF])

/-! ## Responses, resets and power-on (R169, R173) -/

/-- RESPONSE_START puts the oldest response owed on the line; RESPONSE_SENT takes it off, and nothing else
happens unless it is the ACCEPTED response to RESET (R169, R173). RESET is accepted in either run state and
changes nothing yet (R173). That several responses can be owed, oldest first, is the model's choice
(notes/assumptions/3.md), and that RESPONSE_START with none owed does nothing its deduction
(notes/assumptions/20.md). -/
def Obligations.ResponsesComeAndGo : Prop :=
  (∀ s : State,
      (s.responses ≠ [] → exec .responseStart s = .next { s with sending := true }) ∧
      (s.responses = [] → exec .responseStart s = .next s) ∧
      ∀ (straps : Byte) (x : Response) (rest : List Response), s.sending = true →
        s.responses = x :: rest → (x.kind ≠ 0x06 ∨ x.result ≠ .accepted) →
        exec (.responseSent straps) s = .next { s with sending := false, responses := rest }) ∧
  (∀ (r : Req) (s : State), s.addressed r → r.payload = [] →
      exec (.reset r) s = .next (s.heard.owing 0x06 .accepted .empty))

/-- What a reset leaves, from the pin and after a RESET request alike: the controller is STOPPED and OFFLINE with
its straps read again; no pairing record, no PROVISIONAL entry and no door out of IDLE is left; the readers are
as after power-on; settings, tables, clock and CONFIRMED entries are kept; and the blocks queue their records in
order (R9, R84, R108, R142, R155, R166, R167, R173, R186). A held pin resets once. Its release, or the reset after
a request at once, starts a new poll round: the poll of the lowest assigned reader is in flight with its reply window
of 15 ms, or the loop is silent when none is assigned. Each plain input's steady timer starts with its bank's check
time, or with the check time off the contact's level comes; the release makes the scanner's first pass due (R148,
R155, R157, R166, R173). That a reset drops the responses owed, that after a request the scanner keeps its times, and
that a cancelled member's denial names the door's entry reader (R65), are the model's (notes/assumptions/3.md, 28.md
and 11.md), as are the daily counts, which are not stated here (27.md); that the release of a pin not held does
nothing is its deduction (20.md), and so is that with the check time off the level is taken at the release of the pin,
not at the reset (17.md). -/
def Obligations.ResetsClearWhatTheyShould : Prop :=
  let polls (s t : State) (carried : ReaderNo → Option Indication) : Prop :=
    (∀ a, (∀ b < a, s.assignment b = none) → (s.assignment a).isSome = true →
      t.loop = .poll a (carried a) (s.now + 15) ∧ t.lastPolled = some a) ∧
    ((∀ a, s.assignment a = none) → t.loop = .silent)
  (∀ (straps : Byte) (s : State), s.occupancyWf → s.referencesWf → s.supervisionWf →
      (s.pinHeld = false → ∃ t : State, exec (.resetPin straps) s = .next t ∧ t.pinHeld = true ∧ t.loop = .silent ∧
        s.resetTo 1 straps t ∧
        ∀ i, t.input i = { s.input i with
          level := .unclassified, fault := .none, steady := none, lastValue := none, accepted := none
          candidate := none, run := 0 }) ∧
      (∀ rest d, s.sending = true → s.responses = ⟨0x06, .accepted, d⟩ :: rest →
        ∃ t : State, exec (.responseSent straps) s = .next t ∧ t.pinHeld = s.pinHeld ∧ t.scanDue = s.scanDue ∧
        polls s t (fun _ => none) ∧ s.resetTo 2 straps t ∧
        ∀ i, t.input i = { s.input i with
          level := if (s.input i).mode = .plain ∧ s.checkTime i = none then (s.input i).mapped
            else .unclassified
          fault := .none
          steady := if (s.input i).mode = .plain then (s.checkTime i).map fun ms => s.now + ms else none
          lastValue := none, accepted := none, candidate := none, run := 0 })) ∧
  (∀ s : State,
      (s.pinHeld = false → exec .resetPinRelease s = .next s) ∧
      (∀ straps, s.pinHeld = true → exec (.resetPin straps) s = .next s) ∧
      (s.pinHeld = true → s.pinWf → s.doorsWf →
        ∃ t : State, exec .resetPinRelease s = .next t ∧ t.pinHeld = false ∧ t.scanDue = s.now ∧
        polls s t (fun a => (s.reader a).pending) ∧ t.round = 0 ∧ t.queue = s.queue ∧ t.doors = s.doors ∧
        ∀ i, (s.input i).mode = .plain →
          t.input i = match s.checkTime i with
            | some ms => { s.input i with steady := some (s.now + ms) }
            | none => { s.input i with steady := none, level := (s.input i).mapped }))

/-- POWER_ON brings every block to its power-on values, with the straps and the contacts as the pins show them,
and queues no record (R9, R25, R89, R108, R120, R122, R142, R144, R155, R166, R173, R186). The commands that
wait are the model's own and stay; that they do, and that the elapsed time starts again at 0, with the steady
timers due at 20, is its choice (notes/assumptions/18.md). -/
def Obligations.PowerOnStartsFromDefaults : Prop :=
  ∀ (straps : Byte) (closed : BitVec 32) (s : State),
    ∃ t : State, exec (.powerOn straps closed) s = .next t ∧ t.pending = s.pending ∧ t.now = 0 ∧
      t.clock = ⟨.unset, ⟨0, 1, 1⟩, 0, 0, 0⟩ ∧ t.permits = [] ∧ t.window = none ∧ t.holidays = [] ∧
      t.exactList = [] ∧ t.filter = [] ∧ t.queue = [] ∧ t.nextSequence = 0 ∧ t.lost = 0 ∧
      t.run = .stopped ∧ t.link = .offline ∧ t.silence = none ∧ t.sending = false ∧
      t.params = .powerOn ∧ t.round = 0 ∧ t.loop = .silent ∧
      (1 ≤ straps.toNat ∧ straps.toNat ≤ 250 → t.station = .address straps) ∧
      (straps.toNat = 0 ∨ 250 < straps.toNat → t.station = .broadcastOnly) ∧
      (∀ n : Nat, t.schedule n = []) ∧ (∀ k, t.pairing k = none) ∧ (∀ r, t.room r = .powerOn) ∧
      (∀ k, t.door k = .powerOn) ∧ (∀ a, t.reader a = .powerOn) ∧
      ∀ i : InputNo, t.input i =
        { mode := .plain
          polarity := if i.val % 2 = 0 then .normallyClosed else .normallyOpen
          contact := if closed.getLsbD i.val then .closed else .opened
          level := .unclassified, fault := .none, steady := some 20, lastValue := none
          accepted := none, candidate := none, run := 0 }

/-- The state after reset meets every invariant that is stated as kept below. That it is the power-on state
with station 1 and the contacts at rest is the model's choice (notes/assumptions/2.md). -/
def Obligations.ResetStateIsWellFormed : Prop :=
  State.reset.queueWf ∧ State.reset.permitsWf ∧ State.reset.tablesWf ∧ State.reset.pairingsWf ∧
    State.reset.occupancyWf ∧ State.reset.referencesWf ∧ State.reset.supervisionWf ∧ State.reset.capsWf ∧
    State.reset.doorsWf ∧ State.reset.inputsWf ∧ State.reset.readersWf ∧ State.reset.pinWf ∧
    State.reset.linkWf ∧ State.reset.clock.valid = true ∧ State.reset.countsWf ∧ State.reset.rangesWf

/-! ## The calendar clock (chapter 2) -/

/-- SECOND_TICK: in both clock states and but for the last second of the century, the clock stands one second
on, still a valid time, in its state, and the next tick falls one second later (R26). A tick that ends no minute
changes the clock, the timebase and the elapsed time alone. One that ends a minute, within the hour or not, marks the
overstays under a SET clock and queues their OVERSTAY records in ascending room number and list order, each with the
entitled-until time as its detail number; under an UNSET clock it marks none; and it leaves the permit table as it is
unless the date changes (R5, R27, R101, R102). At 2099-12-31 23:59:59 the clock becomes UNSET at 2000-01-01 00:00:00,
every daily count is zeroed, no overstay is looked for, and CLOCK_UNSET is queued, unstamped, if the clock was SET
(R28). The elapsed time that an expiry leaves is the model's choice (notes/assumptions/1.md). -/
def Obligations.SecondTicksCount : Prop :=
  (∀ s : State, s.clock.valid = true →
      ¬(s.clock.date = ⟨99, 12, 31⟩ ∧ s.clock.hour = 23 ∧ s.clock.minute = 59 ∧ s.clock.second = 59) →
      ∃ t : State, exec .secondTick s = .next t ∧ t.clock.absoluteSecond = s.clock.absoluteSecond + 1 ∧
        t.clock.state = s.clock.state ∧ t.clock.valid = true ∧ t.now = max s.now s.nextTick ∧
        t.nextTick = s.nextTick + 1000 ∧ (t.clock.date = s.clock.date → t.permits = s.permits) ∧
        (s.clock.second = 59 → s.clock.state = .set → s.overstaysMarked (s.clock.absoluteMinute + 1) t) ∧
        (s.clock.second = 59 → s.clock.state = .unset → t.rooms = s.rooms ∧ t.queue = s.queue) ∧
        t.doors = s.doors ∧ t.pairings = s.pairings) ∧
  (∀ s : State,
      (s.clock.second < 59 → exec .secondTick s = .next { s with
        now := max s.now s.nextTick
        nextTick := s.nextTick + 1000
        clock := { s.clock with second := s.clock.second + 1 } }) ∧
      (s.clock.second = 59 → s.clock.state = .set → s.clock.minute < 59 →
        ∃ t : State, exec .secondTick s = .next t ∧ t.permits = s.permits ∧
          s.overstaysMarked (s.clock.absoluteMinute + 1) t)) ∧
  ∀ s : State, s.clock.date = ⟨99, 12, 31⟩ → s.clock.hour = 23 → s.clock.minute = 59 →
    s.clock.second = 59 →
    exec .secondTick s = .next
      (let u : State := { s with
        now := max s.now s.nextTick
        nextTick := s.nextTick + 1000
        clock := ⟨.unset, ⟨0, 1, 1⟩, 0, 0, 0⟩
        permits := s.permits.map fun e => (e.1, { e.2 with count := 0 }) }
      if s.clock.state = .set then u.submit { kind := .clockUnset } else u)

/-- A change of the clock's date, by whatever command, leaves every daily entry count at 0 (R5, R27). -/
def Obligations.DateChangesZeroTheCounts : Prop :=
  ∀ (c : Instr) (s t : State), exec c s = .next t → t.clock.date ≠ s.clock.date →
    ∀ e ∈ t.permits, e.2.count = 0

/-- SET TIME, accepted: the clock is SET at the time given, the timebase restarts, a different date zeroes the
counts, and CLOCK_SET carries the old time of a SET clock; broadcast, the same without a response (R31). A time that
is not valid is refused with BAD_VALUE (R30). MINUTE MARK, addressed, or broadcast with the same effect and no
response: refused with CLOCK_UNSET under an UNSET clock; a second below 30 goes back to 0 with no signal; one from 30
goes on to the next whole minute, with its overstays marked and recorded (R101, R102), or in the last minute of the
century to second 59; the timebase restarts each time (R32, R33). The order of the payload's fields is the model's
deduction (notes/assumptions/5.md). -/
def Obligations.TimeRequestsSetTheClock : Prop :=
  (∀ (r : Req) (s : State) (y mo d h mi se : Byte), r.payload = [y, mo, d, h, mi, se] →
      let new : Clock := ⟨.set, ⟨y.toNat, mo.toNat, d.toNat⟩, h.toNat, mi.toNat, se.toNat⟩
      let u : State := { s.heard with
        clock := new
        nextTick := s.now + 1000
        permits := if new.date = s.clock.date then s.permits
          else s.permits.map fun e => (e.1, { e.2 with count := 0 }) }
      let t := u.submit
        { kind := .clockSet
          detail := if s.clock.state = .set then some s.clock.absoluteSecond else none }
      let ok := new.date.valid = true ∧ h.toNat ≤ 23 ∧ mi.toNat ≤ 59 ∧ se.toNat ≤ 59
      (s.addressed r → ok → exec (.setTime r) s = .next (t.owing 0x10 .accepted (.time new))) ∧
      (s.broadcasted r → ok → exec (.setTime r) s = .next t) ∧
      (s.addressed r → ¬ok → exec (.setTime r) s = .next (s.heard.owing 0x10 .badValue .empty)) ∧
      (s.broadcasted r → ¬ok → exec (.setTime r) s = .next s.heard)) ∧
  (∀ (r : Req) (s : State), r.payload = [] →
      let marks (t : State) : Prop := (s.addressed r → exec (.minuteMark r) s =
          .next (t.owing 0x11 .accepted (.time t.clock))) ∧
        (s.broadcasted r → exec (.minuteMark r) s = .next t)
      (s.clock.state = .unset →
        (s.addressed r → exec (.minuteMark r) s = .next (s.heard.owing 0x11 .clockUnset .empty)) ∧
        (s.broadcasted r → exec (.minuteMark r) s = .next s.heard)) ∧
      (s.clock.state = .set → s.clock.second < 30 →
        marks { s.heard with clock := { s.clock with second := 0 }, nextTick := s.now + 1000 }) ∧
      (s.clock.state = .set → 30 ≤ s.clock.second → s.clock.date = ⟨99, 12, 31⟩ → s.clock.hour = 23 →
        s.clock.minute = 59 →
        marks { s.heard with clock := { s.clock with second := 59 }, nextTick := s.now + 1000 }) ∧
      (s.clock.state = .set → 30 ≤ s.clock.second → s.clock.valid = true →
        ¬(s.clock.date = ⟨99, 12, 31⟩ ∧ s.clock.hour = 23 ∧ s.clock.minute = 59) →
        ∃ t : State, marks t ∧ t.clock.absoluteMinute = s.clock.absoluteMinute + 1 ∧ t.clock.second = 0 ∧
          t.clock.state = .set ∧ t.clock.valid = true ∧ t.nextTick = s.now + 1000 ∧
          (t.clock.date = s.clock.date → t.permits = s.permits) ∧
          s.heard.overstaysMarked (s.clock.absoluteMinute + 1) t))

/-- What a calendar date is, and its day number (R26, R35, R36). Day numbers and dates turn into each other: every
calendar date has a day number up to 36,524, every such number a calendar date, and each conversion undoes the other
(R35, R36). The weekday, minute of the week, absolute minute and absolute second of a reading follow from its day
number, hour, minute and second (R37). A weekly window contains exactly the
minutes of the week that come within its length from its start, across Sunday midnight as well; its remaining
time runs to the first minute after it (R38). -/
def Obligations.CalendarArithmeticAgrees : Prop :=
  (∀ d : Date,
      let leap := d.year % 4 = 0
      let lengths := [31, if leap then 29 else 28, 31, 30, 31, 30, 31, 31, 30, 31, 30, 31]
      (d.valid = true ↔ d.year ≤ 99 ∧ 1 ≤ d.month ∧ d.month ≤ 12 ∧ 1 ≤ d.day ∧
        d.day ≤ lengths.getD (d.month - 1) 0) ∧
      (d.valid = true → d.dayNumber = 365 * d.year + (d.year + 3) / 4 +
        [0, 31, 59, 90, 120, 151, 181, 212, 243, 273, 304, 334].getD (d.month - 1) 0 +
        (if leap ∧ 3 ≤ d.month then 1 else 0) + (d.day - 1))) ∧
  (∀ c : Clock,
      c.dayNumber = c.date.dayNumber ∧ c.weekday = (c.date.dayNumber + 5) % 7 ∧
      c.minuteOfWeek = (c.date.dayNumber + 5) % 7 * 1440 + (c.hour * 60 + c.minute) ∧
      c.absoluteMinute = c.date.dayNumber * 1440 + (c.hour * 60 + c.minute) ∧
      c.absoluteSecond = (c.date.dayNumber * 1440 + (c.hour * 60 + c.minute)) * 60 + c.second) ∧
  ((∀ d : Date, d.valid = true → d.dayNumber ≤ 36524 ∧ dateOfDay d.dayNumber = d) ∧
      ∀ n : Nat, n ≤ 36524 → (dateOfDay n).valid = true ∧ (dateOfDay n).dayNumber = n) ∧
  (∀ (w : WeeklyWindow) (m : Nat), w.start ≤ 10079 → w.length ≤ 10080 → m ≤ 10079 →
      (w.contains m = true ↔ ∃ j < w.length, (w.start + j) % 10080 = m) ∧
      (w.contains m = true → ∃ j < w.length, (w.start + j) % 10080 = m ∧ w.remaining m = w.length - j))

/-- The checks of one permit, in their order (R49 to R52): suspended; not for the room; before its first day and
hour; past its last; on a holiday it honours; outside its schedule; and its allowance used, with an entry that is
PROVISIONAL in the room under the slot taken out of the count. Those of the calendar are made under a SET reading
only (R48). The entitled-until time is absent for an ESCORT and under an UNSET clock (R41); else it is the permit end
for schedule 255, and for another schedule the smaller of the permit end and of the reading's absolute minute plus
the largest remaining time of the windows that hold it (R38, R40). A contractor whose slot passes every check under a
SET reading is entitled to stay past the minute of the grant, and not past the end of the permit (R40, R41, R50,
R51). -/
def Obligations.PermitChecksAndEntitlement : Prop :=
  (∀ (s : State) (room : RoomNo) (reading : Clock) (n : Nat) (x : PermitSlot),
      let p := x.permit
      let day := reading.dayNumber
      let minute := reading.hour * 60 + reading.minute
      let dated := reading.state = .set
      let inside := ∃ e ∈ (s.room room).entries,
        e.credential = p.credential ∧ e.state = .provisional ∧ e.slot = n
      s.checkSlot room reading n x =
        if x.state = .suspended then some .suspended
        else if p.rooms.getLsbD room.val = false then some .wrongRoom
        else if dated ∧ (day < p.firstDay ∨ (day = p.firstDay ∧ minute < p.startMinute.getD 0)) then some .notYet
        else if dated ∧ (p.lastDay < day ∨ (day = p.lastDay ∧ p.endMinute.getD 1440 ≤ minute)) then some .expired
        else if dated ∧ p.holidayRule = .honour ∧ day ∈ s.holidays then some .holiday
        else if dated ∧ p.schedule ≠ 255 ∧
            ∀ w ∈ s.schedule p.schedule, w.contains reading.minuteOfWeek = false then some .outsideHours
        else if p.allowance ≠ 0 ∧ p.allowance ≤ (if inside then x.count - 1 else x.count) then
          some .allowanceUsed
        else none) ∧
  (∀ (s : State) (p : PermitRecord) (reading : Clock),
      let windows := (s.schedule p.schedule).filter fun w => w.contains reading.minuteOfWeek
      let permitEnd := p.lastDay * 1440 + p.endMinute.getD 1440
      (p.role = .escort ∨ reading.state = .unset → s.entitledUntil p reading = none) ∧
      (p.role = .contractor → reading.state = .set →
        (p.schedule = 255 → s.entitledUntil p reading = some permitEnd) ∧
        (p.schedule ≠ 255 → ∀ w ∈ windows,
          (∀ v ∈ windows, v.remaining reading.minuteOfWeek ≤ w.remaining reading.minuteOfWeek) →
          s.entitledUntil p reading =
            some (min (reading.absoluteMinute + w.remaining reading.minuteOfWeek) permitEnd)))) ∧
  ∀ (s : State) (room : RoomNo) (reading : Clock) (n : Nat) (x : PermitSlot),
      reading.state = .set → reading.valid = true → x.permit.role = .contractor →
      s.checkSlot room reading n x = none →
      ∃ u, s.entitledUntil x.permit reading = some u ∧ reading.absoluteMinute < u ∧
        u ≤ x.permit.lastDay * 1440 + x.permit.endMinute.getD 1440

/-- The clock's fields form a valid date and time after every step (R25). The queue holds at most 1,024 records,
each of priority 1 to 3, and the lost count at most 65,535 (R182 to R184). The silence timer runs exactly while the
link is ONLINE (R170). While the reset pin is held, nothing is owed, sent, polled or timed at an input, and the
controller is STOPPED (R173); that nothing is owed is the model's choice, whose resets drop the responses owed
(notes/assumptions/3.md). -/
def Obligations.ClockQueueAndTrunkStayWellFormed : Prop :=
  (Kept fun s => s.clock.valid = true) ∧ Kept State.queueWf ∧ Kept State.linkWf ∧ Kept State.pinWf

/-! ## The record queue (chapter 11) -/

/-- A record that a block submits: with a kind of priority 0 nothing happens (R182). Any other is stamped, takes the
kind's priority and the next sequence, and raises that sequence by one; a queue with room takes it at its end
(R181, R183). At a full queue the lost count is raised, up to 65,535, and the oldest record of the lowest priority
present gives way unless every one has a higher priority, when the new record is discarded (R184). COLLECT takes the
oldest records out of the queue, 1 to 8 of them or all there are, in order; it returns them with the number left and
the lost count, and changes nothing else (R185). -/
def Obligations.RecordsAreQueuedAndCollected : Prop :=
  (∀ (s : State) (x : Report),
    let p := s.params.priority x.kind
    let stamp : Option Stamp := if s.clock.state = .set then
      some ⟨s.clock.date, s.clock.hour, s.clock.minute, s.clock.second⟩ else none
    let new : Record := ⟨s.nextSequence, stamp, p, x⟩
    (p = 0 → s.submit x = s) ∧
    (p ≠ 0 → s.queue.length < 1024 →
      s.submit x = { s with queue := s.queue ++ [new], nextSequence := s.nextSequence + 1 }) ∧
    (p ≠ 0 → 1024 ≤ s.queue.length →
      let full (queue : List Record) : State :=
        { s with queue := queue, nextSequence := s.nextSequence + 1, lost := min (s.lost + 1) 65535 }
      (∀ before old after, s.queue = before ++ old :: after → old.priority ≤ p →
        (∀ r ∈ s.queue, old.priority ≤ r.priority) → (∀ r ∈ before, r.priority ≠ old.priority) →
        s.submit x = full (before ++ after ++ [new])) ∧
      ((∀ r ∈ s.queue, p < r.priority) → s.submit x = full s.queue))) ∧
  ∀ (r : Req) (s : State) (b : Byte), s.addressed r → r.payload = [b] →
    let n := if b.toNat = 0 then 1 else if 8 < b.toNat then 8 else b.toNat
    ∃ taken rest, s.heard.queue = taken ++ rest ∧ taken.length = min n s.heard.queue.length ∧
      exec (.collect r) s = .next
        (State.owing { s.heard with queue := rest } 0x70 .accepted
          (.collected rest.length s.heard.lost taken))

/-! ## Permit tables (chapter 1) -/

/-- OPEN PERMIT WINDOW: slots from 0 to 2047 with the first not above the last open the window at the first; anything
else is refused with BAD_VALUE and leaves it CLOSED (R11). PERMIT RECORD, a record that passes R2 and R3 in an open
window: the slot at the write position becomes ACTIVE with the record and count 0, every other slot reads as before,
the position advances, and nothing else changes (R12). The record stored is that of the bytes offered, with a start
or end minute above 1439 stored as 1439 and an allowance above 15 as 15, and the response carries the stored values
(R2, R177). With the EMPTY marker, the slot at the write position becomes FREE and the position advances (R13). The
order of the payload's fields is the model's deduction (notes/assumptions/5.md). -/
def Obligations.PermitRecordsAreWritten : Prop :=
  (∀ (r : Req) (s : State) (f1 f0 l1 l0 : Byte), s.addressed r → r.payload = [f1, f0, l1, l0] →
      let first := f1.toNat * 256 + f0.toNat
      let last := l1.toNat * 256 + l0.toNat
      (last ≤ 2047 ∧ first ≤ last →
        exec (.openPermitWindow r) s = .next
          (State.owing { s.heard with window := some ⟨first, last⟩ } 0x20 .accepted
            (.windowSlots first last))) ∧
      (¬(last ≤ 2047 ∧ first ≤ last) →
        exec (.openPermitWindow r) s = .next (s.heard.owing 0x20 .badValue .empty))) ∧
  (∀ (r : Req) (s : State) (w : PermitWindow) (fields : List Byte),
      s.addressed r → s.window = some w → w.position ≤ w.last → r.payload = 1 :: fields →
      fields.length = 23 → offerAllowed fields →
      (∀ e ∈ s.permits, e.1 ≠ w.position → ¬(e.2.permit.credential.toNat = numberAt fields 0 4 ∧
        e.2.permit.workOrder = numberAt fields 5 3)) →
      (s.permits.countP fun e =>
        decide (e.1 ≠ w.position) && e.2.permit.credential.toNat == numberAt fields 0 4) < 8 →
      ∃ (p : PermitRecord) (t : State), offerStored fields p ∧ exec (.permitRecord r) s = .next
          (t.owing 0x21 .accepted (.permitWritten w.position p.report (w.position + 1))) ∧
        (∀ m, t.slot m = if m = w.position then some ⟨.active, p, 0⟩ else s.slot m) ∧
        t.window = some ⟨w.position + 1, w.last⟩ ∧
        { t with permits := s.permits, window := s.window } = s.linkHeard) ∧
  (∀ (r : Req) (s : State) (w : PermitWindow), s.addressed r → r.payload = [0] → s.window = some w →
      w.position ≤ w.last →
      ∃ t : State, exec (.permitRecord r) s = .next
          (t.owing 0x21 .accepted (.permitFreed w.position (w.position + 1))) ∧
        (∀ m, t.slot m = if m = w.position then none else s.slot m) ∧
        t.window = some ⟨w.position + 1, w.last⟩ ∧
        { t with permits := s.permits, window := s.window } = s.linkHeard)

/-- PERMIT RECORD, refused: WINDOW_CLOSED, WINDOW_END, BAD_VALUE for each structural fault of the bytes offered, a
first byte that is neither 0 nor 1 among them, DUPLICATE with the lowest slot that holds the pair, and
CREDENTIAL_LIMIT; no slot changes and the window stays as it was (R2, R3, R12). The refusal of a CLOSED window
carries no data, because a CLOSED window's position is not reported (chapter 1.3): the model's deduction
(notes/assumptions/16.md). The order of the payload's fields is the model's deduction (notes/assumptions/5.md). -/
def Obligations.PermitRecordsAreRefused : Prop :=
  ∀ (r : Req) (s : State) (mark : Byte) (fields : List Byte), s.addressed r →
    RequestKind.permitRecord.allows r.payload = true → r.payload = mark :: fields →
    let refusal code data := exec (.permitRecord r) s = .next (s.linkHeard.owing 0x21 code data)
    (s.window = none → refusal .windowClosed .empty) ∧
    (∀ w, s.window = some w → w.last < w.position → refusal .windowEnd (.writePosition w.position)) ∧
    ∀ w, s.window = some w → w.position ≤ w.last → mark ≠ 0 →
      ((mark ≠ 1 ∨ ¬offerAllowed fields) → refusal .badValue (.writePosition w.position)) ∧
      (mark = 1 → offerAllowed fields →
        let workOrder := numberAt fields 5 3
        let others := s.permits.filter fun e =>
          decide (e.1 ≠ w.position) && e.2.permit.credential.toNat == numberAt fields 0 4
        (∀ held ∈ others, Rising (s.permits.map Prod.fst) → held.2.permit.workOrder = workOrder →
          (∀ e ∈ others, e.2.permit.workOrder = workOrder → held.1 ≤ e.1) →
          refusal .duplicate (.duplicateSlot w.position held.1)) ∧
        ((∀ e ∈ others, e.2.permit.workOrder ≠ workOrder) → 8 ≤ others.length →
          refusal .credentialLimit (.writePosition w.position)))

/-- SUSPEND PERMIT and RESUME PERMIT put a non-FREE slot into their state and change nothing else; a FREE slot
is NOT_FOUND and a number above 2047 BAD_VALUE (R16). -/
def Obligations.PermitsAreSuspendedAndResumed : Prop :=
  ∀ (r : Req) (s : State) (b1 b0 : Byte) (target : SlotState), s.addressed r → r.payload = [b1, b0] →
    let n := b1.toNat * 256 + b0.toNat
    let c : Instr := match target with | .suspended => .suspendPermit r | .active => .resumePermit r
    let code : Byte := match target with | .suspended => 0x23 | .active => 0x24
    (∀ p, n ≤ 2047 → s.slot n = some p →
      ∃ t : State, exec c s = .next (t.owing code .accepted (.slotState target)) ∧
        (∀ m, t.slot m = if m = n then some { p with state := target } else s.slot m) ∧
        { t with permits := s.permits } = s.heard) ∧
    (n ≤ 2047 → s.slot n = none → exec c s = .next (s.heard.owing code .notFound .empty)) ∧
    (2047 < n → exec c s = .next (s.heard.owing code .badValue .empty))

/-- The bytes of a permit record that passes R2 are read back as that record, whatever its fields: no bit of an
offered record is lost between the trunk and the table (R2, R35, R36, R177, R178). The order of the payload's
fields is the model's deduction (notes/assumptions/5.md). -/
def Obligations.PermitRecordsRoundTrip : Prop :=
  ∀ (offer : PermitOffer) (p : PermitRecord), offer.checked = some p →
    ∃ again, p.bytes = 1 :: p.bytes.tail ∧ p.bytes.length = 24 ∧
      permitOfferOf p.bytes.tail = some again ∧ again.checked = some p

/-- WRITE SCHEDULE replaces one schedule whole, addressed or broadcast, and more than 8 windows, a window out of
range or a number above 63 refuses it whole (R18). ADD HOLIDAY, REMOVE HOLIDAY and CLEAR HOLIDAYS: which days are
held afterwards, the count in the response, and the refusals; a day already held is accepted even by a full list. A
broadcast changes the list as the addressed request does and has no response (R10, R22, R23). The order of the
payload's fields is the model's deduction (notes/assumptions/5.md). -/
def Obligations.SchedulesAndHolidaysAreKept : Prop :=
  (∀ (r : Req) (s : State) (n : Nat) (windows : List WeeklyWindow), n < 256 → windows.length < 256 →
      (∀ w ∈ windows, w.start < 65536 ∧ w.length < 65536) → r.payload = scheduleBytes n windows →
      let ok := n ≤ 63 ∧ windows.length ≤ 8 ∧ ∀ w ∈ windows, w.start ≤ 10079 ∧ 1 ≤ w.length ∧ w.length ≤ 10080
      (ok → ∃ t : State, (∀ m, t.schedule m = if m = n then windows else s.schedule m) ∧
        { t with schedules := s.schedules } = s.heard ∧
        (s.addressed r → exec (.writeSchedule r) s = .next
          (t.owing 0x25 .accepted (.scheduleHeld n windows.length))) ∧
        (s.broadcasted r → exec (.writeSchedule r) s = .next t)) ∧
      (¬ok → s.addressed r → exec (.writeSchedule r) s = .next (s.heard.owing 0x25 .badValue .empty)) ∧
      (¬ok → s.broadcasted r → exec (.writeSchedule r) s = .next s.heard)) ∧
  ∀ (r : Req) (s : State) (y m d : Byte), s.receives r = true → Rising s.holidays →
    let date : Date := ⟨y.toNat, m.toNat, d.toNat⟩
    let day := date.dayNumber
    let answers (c : Instr) (code : Byte) (t : State) (result : ResultCode) (data : ResponseData) : Prop :=
      exec c s = .next (if r.broadcast then t else t.owing code result data)
    (r.payload = [y, m, d] → date.valid = true → day ∉ s.holidays → s.holidays.length < 32 →
      ∃ t : State, answers (.addHoliday r) 0x27 t .accepted (.holidayCount (s.holidays.length + 1)) ∧
        (∀ x, x ∈ t.holidays ↔ x = day ∨ x ∈ s.holidays) ∧ Rising t.holidays ∧
        { t with holidays := s.holidays } = s.heard) ∧
    (r.payload = [y, m, d] → date.valid = true → day ∈ s.holidays →
      answers (.addHoliday r) 0x27 s.heard .accepted (.holidayCount s.holidays.length)) ∧
    (r.payload = [y, m, d] → date.valid = true → day ∉ s.holidays → 32 ≤ s.holidays.length →
      answers (.addHoliday r) 0x27 s.heard .tableFull .empty) ∧
    (r.payload = [y, m, d] → date.valid = false →
      answers (.addHoliday r) 0x27 s.heard .badValue .empty ∧
      answers (.removeHoliday r) 0x28 s.heard .badValue .empty) ∧
    (r.payload = [y, m, d] → date.valid = true → day ∈ s.holidays →
      ∃ t : State, answers (.removeHoliday r) 0x28 t .accepted (.holidayCount (s.holidays.length - 1)) ∧
        (∀ x, x ∈ t.holidays ↔ x ∈ s.holidays ∧ x ≠ day) ∧ Rising t.holidays ∧
        { t with holidays := s.holidays } = s.heard) ∧
    (r.payload = [y, m, d] → date.valid = true → day ∉ s.holidays →
      answers (.removeHoliday r) 0x28 s.heard .notFound .empty) ∧
    (r.payload = [] →
      answers (.clearHolidays r) 0x29 { s.heard with holidays := [] } .accepted (.holidayCount 0))

/-- The permit table and the permit window stay well formed: slots in order, counts at most 15, no credential twice
under one work order nor in more than 8 slots (R1, R3, R6, R11). The schedules, the holidays, the exact list and the
filter stay within their sizes, in range and in order (R17, R18, R21, R109, R110). Every stored permit stays in range
(R2), and no daily entry count passes an allowance that is not 0 while the account of who is inside is exact (R6, R7,
R52). The controller parameters and the settings of rooms and doors stay in range, the thresholds strictly increasing
(R90, R121, R149, R174). -/
def Obligations.TablesStayWellFormed : Prop :=
  Kept State.permitsWf ∧ Kept State.tablesWf ∧ Kept State.rangesWf ∧
    ∀ s t : State, s.occupancyWf → s.referencesWf → s.pairingsWf → s.permitsWf → s.countsWf → step s = .next t →
      t.countsWf

/-! ## Revocation (chapter 6) -/

/-- REVOKE, addressed or broadcast, of a credential that is not 0: from then on the credential is answered revoked, as
is every credential that was before (R111, R113). Its records stand in the order of R114: REVOCATION_OVERFLOW, if any;
its ENTRY_DENIED with REVOKED, if it waits in a pairing record, which it leaves (R85); NOT_ENTERED for a PROVISIONAL
entry, which is removed with its count handed back (R7, R104), or REVOKED_INSIDE for a CONFIRMED one not yet flagged,
which is flagged (R103). The reference of a removed entry leaves its door's list, and a list left empty cancels the
release, so that the lock is secured and RELEASED becomes SECURE unless the egress timer runs (R136). An addressed
REVOKE is answered with the placement and with what was found in flight (R114). That the denial names no reader is the
model's deduction (notes/assumptions/11.md), and that a count which stopped at 15 is handed back like any other its
choice (notes/assumptions/35.md). -/
def Obligations.RevocationActsAtOnce : Prop :=
  ∀ (r : Req) (s : State) (c : Credential), c ≠ 0 → r.payload = bytesOfCredential c →
    s.receives r = true → s.occupancyWf → s.waiting.Nodup →
    let listed := c ∈ s.exactList
    let space := s.exactList.length < 256
    let overflow : List Report := if ¬listed ∧ ¬space ∧ s.filter = [] then
        [{ kind := .revocationOverflow, credential := some c, detail := some (positionOf c) }]
      else []
    let denied : List Report := sixteen.flatMap fun k => (s.pairing k).toList.flatMap fun p =>
      ((p.escort.toList ++ p.contractors).filter fun m => m.credential = c).map fun m =>
        { kind := .entryDenied, door := some k, room := some (s.roomOf k), credential := some c
          slot := some m.slot, workOrder := some m.workOrder, reason := some .revoked }
    let found : List Report := sixteen.flatMap fun q =>
      ((s.room q).entries.filter fun e => e.credential = c).flatMap fun e =>
        let record (kind : RecordKind) : Report :=
          { kind := kind, door := some e.door, room := some q, credential := some c, slot := some e.slot
            workOrder := some e.workOrder }
        if e.state = .provisional then [record .notEntered]
        else if e.revokedInside then [] else [record .revokedInside]
    let removed (e : Entry) : Bool := e.credential == c && e.state == .provisional
    ∃ t : State, exec (.revoke r) s = .next t ∧ t.revocation c ≠ .clear ∧
      (∀ x, s.revocation x ≠ .clear → t.revocation x ≠ .clear) ∧
      (∀ x, x ∈ t.waiting ↔ x ∈ s.waiting ∧ x ≠ c) ∧
      (∀ e ∈ t.allEntries, e.credential = c → e.state = .confirmed ∧ e.revokedInside = true) ∧
      (s.referencesWf → s.supervisionWf → s.pairingsWf → s.doorsWf →
        t.queue = (s.heard.submitAll (overflow ++ denied ++ found)).queue ∧
        (∀ k, t.pairing k = s.pairingWithout c k) ∧
        (∀ q, (t.room q).entries = ((s.room q).entries.filter fun e => !removed e).map fun e =>
          if e.credential = c then { e with revokedInside := true } else e) ∧
        (∀ n, t.slot n = (s.slot n).map (handedBack (s.allEntries.filter removed) n)) ∧
        (∀ k, let d := s.door k
          let left := d.provisional.filter (· ≠ c)
          t.door k = if c ∉ d.provisional then d
            else if left ≠ [] then { d with provisional := left }
            else { d with
              provisional := [], release := none, lock := d.settings.lockType.secureLevel
              state := if d.egress = none then .secure else .released }) ∧
        t.responses = if r.broadcast then s.responses else s.responses ++ [⟨0x30, .accepted, .revoked
          { placement := if listed ∨ space then .exact else .filter
            changed := if listed then false else decide (space ∨ positionOf c ∉ s.filter)
            exactCount := t.exactList.length
            position := positionOf c
            positionsSet := t.filter.length
            memberRemoved := decide (c ∈ s.waiting)
            entry := match s.findEntry c with
              | none => .notFound
              | some (_, e) => if e.state = .provisional then .removed
                else if e.revokedInside then .alreadyFlagged else .flagged }⟩])

/-- REVOKE places a credential: in the exact list while it has room, and else in the filter, with
REVOCATION_OVERFLOW only when no position was set (R113). REVOKE and REINSTATE of credential 0 are refused with
BAD_VALUE when addressed, and broadcast they are taken and not carried out (R112). REINSTATE takes
a credential out of the exact list and nothing else; one held by the filter alone is FILTERED, and one not held
NOT_FOUND; broadcast, the same without a response (R116). Every one of these responses carries the exact-list
count (R109); that the refusals do too is the model's deduction (notes/assumptions/30.md). The filter position of a
credential: the exclusive-or of its two halves, times 40,503 modulo 65,536, divided by 64 without remainder
(R110). -/
def Obligations.RevocationsArePlaced : Prop :=
  ((∀ c : Credential,
      positionOf c = (c.toNat / 65536 ^^^ c.toNat % 65536) * 40503 % 65536 / 64 ∧ positionOf c ≤ 1023) ∧
    positionOf 305419896 = 593 ∧ positionOf 17484 = 593) ∧
  (∀ (r : Req) (s : State) (c : Credential), r.payload = bytesOfCredential c → s.addressed r →
      s.exactList.Pairwise (· < ·) → s.membership c = none → s.findEntry c = none →
      let answer (u : State) (placement : Placement) (changed : Bool) : Prop :=
        exec (.revoke r) s = .next (u.owing 0x30 .accepted (.revoked
          ⟨placement, changed, u.exactList.length, positionOf c, u.filter.length, false, .notFound⟩))
      (c = 0 → exec (.revoke r) s = .next
        (s.heard.owing 0x30 .badValue (.exactCount s.exactList.length))) ∧
      (c ≠ 0 → c ∈ s.exactList → answer s.heard .exact false) ∧
      (c ≠ 0 → c ∉ s.exactList → s.exactList.length < 256 →
        ∃ u : State, answer u .exact true ∧ u.exactList.length = s.exactList.length + 1 ∧
          (∀ x, x ∈ u.exactList ↔ x = c ∨ x ∈ s.exactList) ∧
          { u with exactList := s.exactList } = s.heard) ∧
      (c ≠ 0 → c ∉ s.exactList → 256 ≤ s.exactList.length → s.filter ≠ [] →
        ∃ u : State, answer u .filter (decide (positionOf c ∉ s.filter)) ∧
          (∀ x, x ∈ u.filter ↔ x = positionOf c ∨ x ∈ s.filter) ∧
          { u with filter := s.filter } = s.heard) ∧
      (c ≠ 0 → c ∉ s.exactList → 256 ≤ s.exactList.length → s.filter = [] →
        answer (State.submit { s.heard with filter := [positionOf c] }
          { kind := .revocationOverflow, credential := some c, detail := some (positionOf c) })
          .filter true)) ∧
  (∀ (r : Req) (s : State) (c : Credential), c ≠ 0 → r.payload = bytesOfCredential c →
      let u : State := { s.heard with exactList := s.exactList.filter (· ≠ c) }
      (s.addressed r → c ∈ s.exactList → exec (.reinstate r) s = .next
        (u.owing 0x31 .accepted (.reinstated u.exactList.length (positionOf c)
          (decide (positionOf c ∈ s.filter))))) ∧
      (s.broadcasted r → c ∈ s.exactList → exec (.reinstate r) s = .next u) ∧
      (s.addressed r → c ∉ s.exactList → positionOf c ∈ s.filter →
        exec (.reinstate r) s = .next (s.heard.owing 0x31 .filtered (.exactCount s.exactList.length))) ∧
      (s.addressed r → c ∉ s.exactList → positionOf c ∉ s.filter →
        exec (.reinstate r) s = .next (s.heard.owing 0x31 .notFound (.exactCount s.exactList.length))) ∧
      (s.broadcasted r → c ∉ s.exactList → exec (.reinstate r) s = .next s.heard)) ∧
  ∀ (r : Req) (s : State), r.payload = bytesOfCredential 0 →
      (s.addressed r →
        exec (.revoke r) s = .next (s.heard.owing 0x30 .badValue (.exactCount s.exactList.length)) ∧
        exec (.reinstate r) s = .next (s.heard.owing 0x31 .badValue (.exactCount s.exactList.length))) ∧
      (s.broadcasted r → exec (.revoke r) s = .next s.heard ∧ exec (.reinstate r) s = .next s.heard)

/-- CLEAR FILTER is accepted in every state: no position is left set, the exact list is as it was, and the
response counts the positions that were set (R117). -/
def Obligations.FilterIsCleared : Prop :=
  ∀ (r : Req) (s : State), r.payload = [] →
    (s.addressed r → exec (.clearFilter r) s = .next
      (State.owing { s.heard with filter := [] } 0x32 .accepted (.filterCleared s.filter.length))) ∧
    (s.broadcasted r → exec (.clearFilter r) s = .next { s.heard with filter := [] })

/-! ## Rooms and occupancy (chapters 4.8 and 5) -/

/-- SET ROOM in STOPPED: a room above 15, a policy outside the three or a yes-or-no setting that is neither is refused
with BAD_VALUE. Otherwise the cap is clamped to 1 to 32 and the grace to 240, and settings that fit the room's entries
are stored for that room, with its supervision check; no entry and no other room changes. Settings that do not fit
are refused with ROOM_OCCUPIED, and any in RUNNING with NOT_STOPPED (R86, R90, R91). The order of the payload's fields
is the model's deduction (notes/assumptions/5.md). -/
def Obligations.RoomSettingsAreStored : Prop :=
  ∀ (r : Req) (s : State) (n use cap policy passback lone online grace : Byte), s.addressed r →
    r.payload = [n, use, cap, policy, passback, lone, online, grace] →
    let ok := n.toNat ≤ 15 ∧ policy.toNat ≤ 2 ∧ ∀ b ∈ [use, passback, lone, online], b.toNat ≤ 1
    let x : RoomSettings :=
      { inUse := use == 1, cap := min (max cap.toNat 1) 32
        policy := if policy = 0 then .single else if policy = 1 then .escorted else .escortPresent
        passback := passback == 1, loneBarred := lone == 1, onlineOnly := online == 1
        grace := min grace.toNat 240 }
    (s.run = .running → exec (.setRoom r) s = .next (s.heard.owing 0x40 .notStopped .empty)) ∧
    (s.run = .stopped → ¬ok → exec (.setRoom r) s = .next (s.heard.owing 0x40 .badValue .empty)) ∧
    (s.run = .stopped → ok → ∀ q : RoomNo, q.val = n.toNat →
      let fits := (x.inUse = true ∨ (s.room q).entries = []) ∧ (s.room q).entries.length ≤ x.cap
      (¬fits → exec (.setRoom r) s = .next (s.heard.owing 0x40 .roomOccupied .empty)) ∧
      (fits → ∃ t : State, exec (.setRoom r) s = .next (t.owing 0x40 .accepted (.roomStored q x)) ∧
        (∀ p, (t.room p).settings = if p = q then x else (s.room p).settings) ∧
        (∀ p, (t.room p).entries = (s.room p).entries) ∧
        (∀ p ≠ q, (t.room p).supervision = (s.room p).supervision) ∧
        ((t.room q).supervision = .unescorted ↔ t.leftAlone q = true) ∧
        t.queue = (s.heard.submitAll (s.checkReport t q)).queue ∧
        t.doors = s.doors ∧ t.permits = s.permits))

/-- CLEAR OCCUPANT: a credential of 0 is BAD_VALUE and one without an entry NOT_FOUND; otherwise its entry is removed
with its reference, OCCUPANT_CLEARED carries the room, the entry door, the credential, the slot, the work order and
the flags, the room's supervision check follows, and the response carries the room and the entry's state (R106). No
other entry is touched and no daily count changes. -/
def Obligations.OccupantsAreCleared : Prop :=
  ∀ (r : Req) (s : State) (c : Credential), s.addressed r → r.payload = bytesOfCredential c →
    (c = 0 → exec (.clearOccupant r) s = .next (s.heard.owing 0x42 .badValue .empty)) ∧
    (c ≠ 0 → s.findEntry c = none →
      exec (.clearOccupant r) s = .next (s.heard.owing 0x42 .notFound .empty)) ∧
    ∀ q e, c ≠ 0 → s.findEntry c = some (q, e) →
      ∃ t : State, exec (.clearOccupant r) s = .next (t.owing 0x42 .accepted (.occupantCleared q e.state)) ∧
        let reports : List Report :=
          { kind := .occupantCleared, room := some q, door := some e.door, credential := some c
            slot := some e.slot, workOrder := some e.workOrder
            detail := some ((if e.overstay then 1 else 0) + (if e.revokedInside then 2 else 0)) } ::
          s.checkReport t q
        t = { s.heard.submitAll reports with rooms := t.rooms, doors := t.doors } ∧
        (∀ p, (t.room p).entries = if p = q then (s.room p).entries.filter fun y => y.credential ≠ c
          else (s.room p).entries) ∧
        (∀ p, (t.room p).settings = (s.room p).settings ∧ (p ≠ q → (t.room p).supervision = (s.room p).supervision)) ∧
        ((t.room q).supervision = .unescorted ↔ t.leftAlone q = true) ∧
        (∀ k, t.door k = if e.state = .provisional ∧ e.door = k then
          { s.door k with provisional := (s.door k).provisional.filter (· ≠ c) } else s.door k) ∧
        (s.occupancyWf → t.findEntry c = none ∧ ∀ x, x ≠ c → t.findEntry x = s.findEntry x)

/-- CLEAR ROOM removes every entry of one room, oldest first, with an OCCUPANT_CLEARED record each and one supervision
check after them, and answers their number; no other room's entries and no daily count change, the references of the
entries leave their doors' lists, and a door's release runs on (R86, R96, R106, R107). -/
def Obligations.RoomsAreCleared : Prop :=
  ∀ (r : Req) (s : State) (b : Byte), s.addressed r → r.payload = [b] →
    (∀ h : b.toNat < 16,
      let q : RoomNo := ⟨b.toNat, h⟩
      let entries := (s.room q).entries
      ∃ t : State, exec (.clearRoom r) s = .next (t.owing 0x43 .accepted (.roomCleared entries.length)) ∧
      (∀ p, (t.room p).entries = if p = q then [] else (s.room p).entries) ∧ t.permits = s.permits ∧
      t.queue = (s.heard.submitAll ((entries.map fun e =>
        { kind := .occupantCleared, room := some q, door := some e.door, credential := some e.credential
          slot := some e.slot, workOrder := some e.workOrder
          detail := some ((if e.overstay then 1 else 0) + (if e.revokedInside then 2 else 0)) }) ++
        s.checkReport t q)).queue ∧
      ∀ k, t.door k = { s.door k with
        provisional := (s.door k).provisional.filter fun c =>
          !entries.any fun e => e.credential == c && e.state == .provisional && e.door == k }) ∧
    (16 ≤ b.toNat → exec (.clearRoom r) s = .next (s.heard.owing 0x43 .badValue .empty))

/-- The account of who is inside stays exact: no more than 128 entries, no credential twice, the provisional lists
naming exactly the PROVISIONAL entries, each once, and a pairing table in which no credential waits twice, no record
holds both an escort and a contractor, and none is open in STOPPED (R70, R71, R76, R83, R92, R94, R136). While it is
exact, no room comes to hold more entries than its cap, nor a room not in use any (R59, R80, R90, R92), and a room's
supervision state stays UNESCORTED exactly while the room is unescorted (R86). -/
def Obligations.OccupancyStaysExact : Prop :=
  (Kept fun s => s.occupancyWf ∧ s.referencesWf ∧ s.pairingsWf) ∧
    ∀ s t : State, s.occupancyWf → s.referencesWf → step s = .next t →
      (s.supervisionWf → t.supervisionWf) ∧ (s.pairingsWf → s.capsWf → t.capsWf)

/-- The supervision check of a room (R86). A room in CLEAR that is unescorted becomes UNESCORTED, with an UNESCORTED
record whose detail number is the number of its CONFIRMED contractors; a room in UNESCORTED that is not becomes
CLEAR, with an ESCORT_RESTORED record whose detail number is the number of its CONFIRMED escorts; any other stays,
with no record. A room is unescorted when lone work is barred in it, it holds a CONFIRMED contractor, and no
CONFIRMED escort. -/
def Obligations.SupervisionIsReported : Prop :=
  ∀ (s : State) (q : RoomNo),
    let x := s.room q
    let confirmed (role : Role) := (x.entries.filter fun e => e.state = .confirmed ∧ e.role = role).length
    let alone := x.settings.loneBarred = true ∧ 0 < confirmed .contractor ∧ confirmed .escort = 0
    (x.supervision = .clear → alone → s.supervise q =
      (s.setRoom q { x with supervision := .unescorted }).submit
        { kind := .unescorted, room := some q, detail := some (confirmed .contractor) }) ∧
    (x.supervision = .unescorted → ¬alone → s.supervise q =
      (s.setRoom q { x with supervision := .clear }).submit
        { kind := .escortRestored, room := some q, detail := some (confirmed .escort) }) ∧
    (x.supervision = .clear → ¬alone → s.supervise q = s) ∧
    (x.supervision = .unescorted → alone → s.supervise q = s)

/-! ## Door channels (chapter 7) -/

/-- SET DOOR in STOPPED: a channel or room above 15, a reader address out of range, or a lock type, park level or
yes-or-no setting outside its set is refused with BAD_VALUE. Otherwise the release time is clamped to 1 to 60 and the
open allowance to 5 to 600, the settings are stored for that channel, and its lock goes to the new park level; no
other channel changes, and a reader whose assignment changes forgets its last presentation, while every other reader
keeps its own; each keeps its state, miss count and tamper flag. The assignment of an address is the
lowest-numbered channel in service that names it, ENTRY before EXIT at that channel, and none where no channel in
service names it. In RUNNING SET DOOR is refused with NOT_STOPPED (R121, R137, R156). That SET DOOR wakes a silent
loop at once when it assigns a reader is the model's deduction (notes/assumptions/15.md). The woken loop goes on with
the round and the counter that it held, which is the model's choice (notes/assumptions/32.md): the poll of the lowest
assigned reader that is due under that counter, and above the reader last polled in the round, is in flight with its
reply window of 15 ms, and a loop that had polled nothing and finds none due spends the round as a quiet interval.
The order of the payload's fields is the model's deduction (notes/assumptions/5.md). -/
def Obligations.DoorSettingsAreStored : Prop :=
  (∀ (s : State) (a : ReaderNo),
    let names (k : DoorNo) (dir : Direction) : Prop := (s.door k).settings.inService = true ∧
      (match dir with
        | .entry => (s.door k).settings.entryReader
        | .exit => (s.door k).settings.exitReader) = some a
    (∀ k dir, names k dir → (dir = .exit → ¬names k .entry) → (∀ j < k, ∀ way, ¬names j way) →
      s.assignment a = some (k, dir)) ∧
    ((∀ k dir, ¬names k dir) → s.assignment a = none)) ∧
  ∀ (r : Req) (s : State) (n use room entry exit release a1 a0 lock park relock exits rex sounds denies : Byte),
    s.addressed r →
    r.payload = [n, use, room, entry, exit, release, a1, a0, lock, park, relock, exits, rex, sounds, denies] →
    let ok := n.toNat ≤ 15 ∧ room.toNat ≤ 15 ∧ entry.toNat ≤ 31 ∧
      (exit.toNat = 255 ∨ (1 ≤ exit.toNat ∧ exit.toNat ≤ 31)) ∧
      ∀ b ∈ [use, lock, park, relock, exits, rex, sounds, denies], b.toNat ≤ 1
    let address (a : Option ReaderNo) : Option Nat := a.map fun a => a.val + 1
    (s.run = .running → exec (.setDoor r) s = .next (s.heard.owing 0x50 .notStopped .empty)) ∧
    (s.run = .stopped → ¬ok → exec (.setDoor r) s = .next (s.heard.owing 0x50 .badValue .empty)) ∧
    (s.run = .stopped → ok →
      ∃ (k : DoorNo) (x : DoorSettings) (t : State), k.val = n.toNat ∧
        exec (.setDoor r) s = .next (t.owing 0x50 .accepted (.doorStored k x)) ∧
        (x.inService = (use == 1) ∧ x.room.val = room.toNat ∧
          address x.entryReader = (if entry = 0 then none else some entry.toNat) ∧
          address x.exitReader = (if exit = 255 then none else some exit.toNat) ∧
          x.releaseTime = min (max release.toNat 1) 60 ∧
          x.openAllowance = min (max (a1.toNat * 256 + a0.toNat) 5) 600 ∧
          x.lockType = (if lock = 0 then .failSecure else .failSafe) ∧
          x.parkLevel = (if park = 0 then .energised else .deEnergised) ∧ x.relockOnOpen = (relock == 1) ∧
          x.exitReleases = (exits == 1) ∧ x.rexReleases = (rex == 1) ∧ x.sounderOnAlarm = (sounds == 1) ∧
          x.denyOnFault = (denies == 1)) ∧
        (∀ j, t.door j = if j = k then { s.door k with settings := x, lock := x.parkLevel }
          else s.door j) ∧
        (∀ a, t.assignment a ≠ s.assignment a → (t.reader a).last = none ∧ (t.reader a).pending = none) ∧
        (∀ a, t.assignment a = s.assignment a → (t.reader a).last = (s.reader a).last ∧
          (s.loop ≠ .silent → t.reader a = s.reader a)) ∧
        (∀ a, (t.reader a).state = (s.reader a).state ∧ (t.reader a).misses = (s.reader a).misses ∧
          (t.reader a).tamper = (s.reader a).tamper) ∧
        (s.loop ≠ .silent → t.loop = s.loop ∧ t.round = s.round) ∧
        (s.loop = .silent →
          let due (a : ReaderNo) : Prop := t.assignment a ≠ none ∧
            ((s.reader a).state ≠ .offline ∨ s.round = 0) ∧ ∀ b, s.lastPolled = some b → b < a
          (t.loop = .silent ↔ ∀ a, t.assignment a = none) ∧
          (s.lastPolled = none → t.round = s.round) ∧
          (∀ a, due a → (∀ b < a, ¬due b) → t.round = s.round ∧
            t.loop = .poll a (if t.assignment a = s.assignment a then (s.reader a).pending else none) (s.now + 15)) ∧
          (s.lastPolled = none → (∃ a, t.assignment a ≠ none) → (∀ a, ¬due a) →
            t.loop = .quiet (s.now + 15))) ∧
        t.rooms = s.rooms ∧ t.permits = s.permits ∧ t.inputs = s.inputs)

/-- SET DOOR MODE, addressed or broadcast: a channel above 15 that is not ALL, or a mode outside the three, is
refused with BAD_VALUE and changes nothing (R123). Otherwise every channel named takes the mode, and one that holds
it already, or is not named, is as it was. Into LOCKDOWN the release and the list are cancelled and the state follows
from the egress timer; into OUT_OF_SERVICE the channel is IDLE at its park level; its pairing record is closed, and
the egress timer runs on (R83, R124). A channel in service that leaves OUT_OF_SERVICE in RUNNING settles from its
door-position input (R125). The records, channel by channel, are DOOR_MODE_CHANGED, the cancelled members, the
NOT_ENTERED entries, which are removed with their counts handed back, and the alarm's end (R7, R98, R123, R124). The
entry reader of each door whose record is cancelled is given DENY PAIRING_CANCELLED where an indication reaches it,
and no other reader entry changes (R83, R164). That a cancelled member's denial names the door's entry reader (R65)
is the model's deduction (notes/assumptions/11.md). The response carries the mode of each channel named (R123); that
it carries the channel's number beside each mode (31.md), and that a count which stopped at 15 is handed back like any
other (35.md), are the model's choices. -/
def Obligations.DoorModesAreSet : Prop :=
  (∀ (r : Req) (s : State) (channel mode : Byte), s.receives r = true → r.payload = [channel, mode] →
      (16 ≤ channel.toNat ∧ channel.toNat ≠ 255) ∨ 3 ≤ mode.toNat →
      exec (.setDoorMode r) s = .next (if r.broadcast then s.heard else s.heard.owing 0x51 .badValue .empty)) ∧
  ∀ (r : Req) (s : State) (channel : Byte) (m : DoorMode) (ks : List DoorNo), s.receives r = true →
    let number (m : DoorMode) : Nat := match m with
      | .normal => 0
      | .lockdown => 1
      | .outOfService => 2
    r.payload = [channel, byteOf (number m)] →
    (channel = 255 ∧ ks = List.finRange 16) ∨ (∃ k, channel = byteOf k.val ∧ ks = [k]) → s.doorsWf →
    ∃ t : State, exec (.setDoorMode r) s = .next
        (if r.broadcast then t
          else t.owing 0x51 .accepted (.doorModes (ks.map fun k => (k, m)))) ∧
      (∀ k, t.pairing k = if k ∈ ks ∧ m ≠ .normal ∧ (s.door k).mode ≠ m then none else s.pairing k) ∧
      (∀ k, k ∉ ks ∨ (s.door k).mode = m → t.door k = s.door k) ∧
      (∀ k ∈ ks, (s.door k).mode ≠ m →
        let d := { s.door k with mode := m }
        t.door k =
          if m = .outOfService then { d.parked with egress := d.egress }
          else if (s.door k).mode = .outOfService then
            if s.run = .running ∧ d.settings.inService = true then
              d.settled (s.input ⟨2 * k.val, by omega⟩).level s.now
            else d
          else if m = .normal ∨ d.state = .idle then d
          else { d with
            provisional := [], release := none, lock := d.settings.lockType.secureLevel
            state := if d.state = .released ∧ d.egress = none then .secure else d.state }) ∧
      let moved := ks.filter fun k => (s.door k).mode ≠ m
      let cancelled (k : DoorNo) : Prop := m ≠ .normal ∧ (s.pairing k).isSome = true
      (∀ a, t.reader a =
        if (∃ k ∈ moved, cancelled k ∧ (s.door k).settings.entryReader = some a) ∧ s.reaches a = true then
          { s.reader a with pending := some (.deny .pairingCancelled) }
        else s.reader a) ∧ t.loop = s.loop ∧
      let removed (e : Entry) : Bool := m != .normal && e.state == .provisional && moved.contains e.door
      (s.occupancyWf → s.referencesWf → s.supervisionWf →
        t.queue = (s.heard.submitAll (moved.flatMap fun k =>
          { kind := .doorModeChanged, door := some k, room := some (s.roomOf k)
            detail := some (number (s.door k).mode * 10 + number m) } ::
          ((if m = .normal then [] else s.cancelReports k ++ s.notEnteredReports k) ++
            if m = .outOfService then s.alarmReports k else []))).queue ∧
        (∀ q, (t.room q).entries = (s.room q).entries.filter fun e => !removed e) ∧
        ∀ n, t.slot n = (s.slot n).map (handedBack (s.allEntries.filter removed) n))

/-- RELEASE DOOR: refused with NOT_RUNNING in STOPPED, with BAD_VALUE for a channel above 15, and with NOT_FOUND at
an IDLE channel; otherwise the release timer runs with the release time, the lock is at its release level,
REMOTE_RELEASE carries that time, SECURE becomes RELEASED, and no entry, reference or other door changes (R127, R137,
R140). -/
def Obligations.DoorsAreReleasedRemotely : Prop :=
  (∀ (r : Req) (s : State) (b : Byte), s.addressed r → r.payload = [b] →
    (s.run = .stopped → exec (.releaseDoor r) s = .next (s.heard.owing 0x52 .notRunning .empty)) ∧
    (s.run = .running → 16 ≤ b.toNat →
      exec (.releaseDoor r) s = .next (s.heard.owing 0x52 .badValue .empty))) ∧
  ∀ (r : Req) (s : State) (k : DoorNo), s.addressed r → r.payload = [byteOf k.val] → s.doorsWf →
    (s.run = .running → (s.door k).state = .idle →
      exec (.releaseDoor r) s = .next (s.heard.owing 0x52 .notFound .empty)) ∧
    (s.run = .running → (s.door k).state ≠ .idle →
      let d := s.door k
      ∃ d', exec (.releaseDoor r) s = .next
          (((s.heard.setDoor k d').submit
            { kind := .remoteRelease, door := some k, room := some d.settings.room
              detail := some d.settings.releaseTime }).owing 0x52 .accepted (.doorState d'.state)) ∧
        d' = { d with
          release := some (s.now + d.settings.releaseTime * 1000)
          lock := d.settings.lockType.releaseLevel
          state := if d.state = .secure then .released else d.state
          allowance := if d.state = .opened then some (s.now + d.settings.openAllowance * 1000)
            else d.allowance })

/-- SILENCE: refused with NOT_RUNNING in STOPPED and with BAD_VALUE for a channel above 15; otherwise a sounder
that is ON becomes SILENCED, any other stays, nothing else changes, and the response carries the door state and
the sounder state. A broadcast is taken and not carried out (R139). -/
def Obligations.SoundersAreSilenced : Prop :=
  ∀ (r : Req) (s : State) (b : Byte), r.payload = [b] →
    (s.broadcasted r → exec (.silence r) s = .next s.heard) ∧
    (s.addressed r → s.run = .stopped →
      exec (.silence r) s = .next (s.heard.owing 0x53 .notRunning .empty)) ∧
    (s.addressed r → s.run = .running → 16 ≤ b.toNat →
      exec (.silence r) s = .next (s.heard.owing 0x53 .badValue .empty)) ∧
    ∀ h : b.toNat < 16, s.addressed r → s.run = .running →
      let d := s.door ⟨b.toNat, h⟩
      let after : Sounder := if d.sounder = .on then .silenced else d.sounder
      exec (.silence r) s = .next
        ((s.heard.setDoor ⟨b.toNat, h⟩ { d with sounder := after }).owing 0x53 .accepted
          (.silenced d.state after))

/-- RELEASE_TIMER_EXPIRY: the timer stops, the lock is secured, every PROVISIONAL entry at the door is gone and no
other entry is touched, their counts are handed back; RELEASED becomes SECURE unless the egress timer runs, and any
other state stays (R7, R97, R128). EGRESS_TIMER_EXPIRY: the timer stops; RELEASED becomes SECURE when the release
timer is stopped, every other state stays, no record is queued and nothing else changes (R130).
OPEN_ALLOWANCE_EXPIRY: OPEN becomes HELD, DOOR_HELD carries the open allowance in seconds, the sounder goes ON where
the setting says so, and the allowance stands stopped (R133, R138). A stopped timer gives no expiry (R126). The
elapsed time that an expiry leaves, and that a count which stopped at 15 is handed back like any other, are the
model's choices (notes/assumptions/1.md and 35.md). -/
def Obligations.DoorTimersRunOut : Prop :=
  (∀ (k : DoorNo) (s : State), s.occupancyWf → s.referencesWf →
      ((s.door k).release = none → exec (.releaseTimerExpiry k) s = .next s) ∧
      ∀ deadline, (s.door k).release = some deadline →
        ∃ t : State, exec (.releaseTimerExpiry k) s = .next t ∧ t.now = max s.now deadline ∧
          t.door k = { s.door k with
            release := none
            provisional := []
            lock := (s.door k).settings.lockType.secureLevel
            state := if (s.door k).state = .released ∧ (s.door k).egress = none then .secure
              else (s.door k).state } ∧
          (∀ j, j ≠ k → t.door j = s.door j) ∧
          (∀ q, (t.room q).entries =
            (s.room q).entries.filter fun e => !(e.state == .provisional && e.door == k)) ∧
          (∀ n, t.slot n = (s.slot n).map (handedBack (s.waitingAt k) n)) ∧
          (s.supervisionWf → t.queue = (s.submitAll (s.notEnteredReports k)).queue)) ∧
  (∀ (k : DoorNo) (s : State),
      ((s.door k).egress = none → exec (.egressTimerExpiry k) s = .next s) ∧
      ∀ deadline, (s.door k).egress = some deadline →
        exec (.egressTimerExpiry k) s = .next
          ((s.reach deadline).setDoor k { s.door k with
            egress := none
            state := if (s.door k).state = .released ∧ (s.door k).release = none then .secure
              else (s.door k).state })) ∧
  ∀ (k : DoorNo) (s : State),
      ((s.door k).allowance = none → exec (.openAllowanceExpiry k) s = .next s) ∧
      ∀ deadline, (s.door k).allowance = some deadline → (s.door k).state = .opened →
        exec (.openAllowanceExpiry k) s = .next
          (((s.reach deadline).setDoor k { s.door k with
              allowance := none
              state := .held
              sounder := if (s.door k).settings.sounderOnAlarm then .on else .off }).submit
            { kind := .doorHeld, door := some k, room := some (s.door k).settings.room
              detail := some (s.door k).settings.openAllowance })

/-- Every channel stays well formed: the states follow from the timers, references wait only on a running
release, the lock output stands at the level its rule gives, the sounder sounds only in an alarm, and a channel
is out of IDLE exactly in RUNNING, in service, in NORMAL or LOCKDOWN (R124 to R126, R131, R133, R136 to R138,
R142). -/
def Obligations.DoorsStayWellFormed : Prop := Kept State.doorsWf

/-! ## Inputs (chapter 8) -/

/-- CONTACT_CHANGE at a plain input with a check time: a contact that comes to stand for the level held stops the
steady timer, and any other restarts it; the level and everything else stay. With the check time off, the contact's
level is taken at once, as at an expiry of the steady timer (R147). That a contact moved at a supervised input, or
while the reset pin is held, is only noted is the model's deduction (R147, R173; notes/assumptions/17.md).
STEADY_TIMER_EXPIRY at a stopped timer is no expiry; at a request-to-exit input it brings the level the contact
stands for. A press in any state but IDLE starts the egress timer and makes a SECURE door RELEASED; with REX-releases
it releases the door as well; any other change of the input, and a press in IDLE, does nothing at the door (R127,
R129, R145, R147). The elapsed time that an expiry leaves is the model's choice (notes/assumptions/1.md). -/
def Obligations.ContactsAndPressesAreTaken : Prop :=
  (∀ (i : InputNo) (contact : Contact) (s : State), (s.input i).contact ≠ contact →
      let x := { s.input i with contact := contact }
      ((s.input i).mode = .plain → s.pinHeld = false → mappedLevel x.polarity contact = x.level →
        exec (.contactChange i contact) s = .next (s.setInput i { x with steady := none })) ∧
      (∀ ms, (s.input i).mode = .plain → s.pinHeld = false → mappedLevel x.polarity contact ≠ x.level →
        s.checkTime i = some ms →
        exec (.contactChange i contact) s = .next (s.setInput i { x with steady := some (s.now + ms) })) ∧
      ((s.input i).mode = .plain → s.pinHeld = false → mappedLevel x.polarity contact ≠ x.level →
        s.checkTime i = none →
        exec (.contactChange i contact) s =
          exec (.steadyTimerExpiry i) (s.setInput i { x with steady := some s.now })) ∧
      ((s.input i).mode = .supervised ∨ s.pinHeld = true →
        exec (.contactChange i contact) s = .next (s.setInput i x))) ∧
  ((∀ (i : InputNo) (s : State), (s.input i).steady = none →
      exec (.steadyTimerExpiry i) s = .next s) ∧
    ∀ (k : DoorNo) (s : State) (deadline : Nat),
      let i : InputNo := ⟨2 * k.val + 1, by omega⟩
      let x := s.input i
      let d := s.door k
      let now := max s.now deadline
      let u := (s.reach deadline).setInput i { x with steady := none, level := x.mapped }
      let pressed : DoorChannel := { d with
        state := if d.state = .secure then .released else d.state
        egress := some (now + d.settings.releaseTime * 1000) }
      x.steady = some deadline →
      (¬(x.level = .normal ∧ x.mapped = .active) ∨ d.state = .idle →
        exec (.steadyTimerExpiry i) s = .next u) ∧
      (x.level = .normal → x.mapped = .active → d.state ≠ .idle →
        (d.settings.rexReleases = false →
          exec (.steadyTimerExpiry i) s = .next (u.setDoor k pressed)) ∧
        (d.settings.rexReleases = true → d.provisional.length ≤ 8 →
          exec (.steadyTimerExpiry i) s = .next (u.setDoor k (pressed.releasing now)))))

/-- STEADY_TIMER_EXPIRY at a door-position input that opens its door: the level becomes ACTIVE and the timer
stops; a SECURE door becomes FORCED with DOOR_FORCED, and a RELEASED one OPEN with its open allowance running,
its PROVISIONAL entries confirmed, each with the stamp of the reading, then the room's supervision check, and with
relock-on-open a running release ended; an IDLE door does not act on it (R86, R95, R131, R145, R147). A closing ends
the open allowance in OPEN and the alarm in HELD, with DOOR_HELD_END, and either door goes to RELEASED while a timer
runs, else to SECURE; a FORCED door goes to SECURE with its timers stopped, its lock secured and DOOR_FORCED_END; in
IDLE nothing happens at the door (R132, R138). The first level of an unclassified input: closed, or at a door neither
SECURE nor RELEASED, it changes the level alone; open, it makes the door OPEN with its allowance and no record of the
door, and while the release runs the list is confirmed and relock-on-open acts (R95, R134). A contact that stands for
the level held changes that level no further (R147). The elapsed time that an expiry leaves is the model's choice
(notes/assumptions/1.md). -/
def Obligations.DoorPositionsAreTaken : Prop :=
  (∀ (k : DoorNo) (s : State) (deadline : Nat),
    let i : InputNo := ⟨2 * k.val, by omega⟩
    let d := s.door k
    let relock := d.settings.relockOnOpen = true ∧ d.release.isSome = true
    (s.input i).steady = some deadline → (s.input i).level = .normal → (s.input i).mapped = .active →
    s.occupancyWf → s.referencesWf →
    ∃ t : State, exec (.steadyTimerExpiry i) s = .next t ∧
      t.input i = { s.input i with steady := none, level := .active } ∧
      (d.state = .secure →
        t = (((s.reach deadline).setInput i (t.input i)).setDoor k
          { d with
            state := .forced
            sounder := if d.settings.sounderOnAlarm then .on else .off }).submit
          { kind := .doorForced, door := some k, room := some d.settings.room }) ∧
      (d.state = .idle → t = (s.reach deadline).setInput i (t.input i)) ∧
      (d.state = .released →
        t.door k = { d with
          state := .opened, provisional := []
          allowance := some (max s.now deadline + d.settings.openAllowance * 1000)
          release := if relock then none else d.release
          lock := if relock then d.settings.lockType.secureLevel else d.lock } ∧
        (∀ j, j ≠ k → t.door j = s.door j) ∧ t.permits = s.permits ∧
        ((∀ q, q ≠ s.roomOf k → ∀ e ∈ (s.room q).entries, ¬(e.state = .provisional ∧ e.door = k)) →
          s.supervisionWf → t.queue = (s.submitAll (s.checkReport t (s.roomOf k))).queue) ∧
        ∀ q, (t.room q).entries = (s.room q).entries.map fun e =>
          if e.state = .provisional ∧ e.door = k then
            { e with state := .confirmed, confirmed := s.clock.minuteStamp } else e)) ∧
  ∀ (k : DoorNo) (s : State) (deadline : Nat),
    let i : InputNo := ⟨2 * k.val, by omega⟩
    let x := s.input i
    let d := s.door k
    let u := (s.reach deadline).setInput i { x with steady := none, level := x.mapped }
    let answers (t : State) : Prop := exec (.steadyTimerExpiry i) s = .next t
    let closed : DoorState := if d.release = none ∧ d.egress = none then .secure else .released
    let ended (kind : RecordKind) : Report :=
      { kind := kind, door := some k, room := some d.settings.room, detail := some 0 }
    x.steady = some deadline →
    (x.level = .active → x.mapped = .normal →
      (d.state = .opened → answers (u.setDoor k { d with state := closed, allowance := none })) ∧
      (d.state = .held →
        answers ((u.setDoor k { d with state := closed, sounder := .off }).submit (ended .doorHeldEnd))) ∧
      (d.state = .forced →
        answers ((u.setDoor k { d with
          state := .secure, release := none, egress := none, sounder := .off
          lock := d.settings.lockType.secureLevel }).submit (ended .doorForcedEnd))) ∧
      (d.state = .idle → answers u)) ∧
    (x.level = .unclassified → x.mapped = .normal ∨ (d.state ≠ .secure ∧ d.state ≠ .released) → answers u) ∧
    (x.level = .unclassified → x.mapped = .active → d.state = .secure ∨ d.state = .released →
      let allowance := some (max s.now deadline + d.settings.openAllowance * 1000)
      (d.release = none → answers (u.setDoor k { d with state := .opened, allowance := allowance })) ∧
      (d.release ≠ none → s.occupancyWf → s.referencesWf →
        ∃ t : State, answers t ∧ t.input i = u.input i ∧
          t.door k = { d with
            state := .opened, provisional := [], allowance := allowance
            release := if d.settings.relockOnOpen then none else d.release
            lock := if d.settings.relockOnOpen then d.settings.lockType.secureLevel else d.lock } ∧
          (∀ j, j ≠ k → t.door j = s.door j) ∧ t.permits = s.permits ∧
          ((∀ q, q ≠ s.roomOf k → ∀ e ∈ (s.room q).entries, ¬(e.state = .provisional ∧ e.door = k)) →
            s.supervisionWf → t.queue = (s.submitAll (s.checkReport t (s.roomOf k))).queue) ∧
          ∀ q, (t.room q).entries = (s.room q).entries.map fun e =>
            if e.state = .provisional ∧ e.door = k then
              { e with state := .confirmed, confirmed := s.clock.minuteStamp } else e)) ∧
    (x.mapped = x.level → answers u)

/-- SCANNER_PASS: the next pass falls 20 ms later; every plain input is as it was, and every supervised one holds
its value and its confirm run as the class read and the confirm count make it. None is made while the reset pin is
held (R149, R150, R173). The inputs that accept a class are taken one after the other, in ascending input number: at
each, a fault that ends or gives way to another queues INPUT_FAULT_END, a fault that begins INPUT_FAULT, and a level
that differs reaches the door as a plain input's does, in the state that the inputs before it left (R134, R145, R149,
R151, R152). That a room is checked after each opening that the pass accepts (R95, R131) and not once after the pass
(R86, R145, R149), that the fault records stand before the door's own, and the elapsed time that an expiry leaves,
are the model's choices (notes/assumptions/33.md, 10.md and 1.md). -/
def Obligations.ScannerPassesMeasure : Prop :=
  ∀ (values : Vector (BitVec 10) 32) (s : State),
    let read (i : InputNo) : Option LineClass :=
      let v := values[i].toNat
      if v < s.params.shortThreshold then some .short else if v < s.params.normalTop then some .normal
      else if v < s.params.activeThreshold then none else if v < s.params.openThreshold then some .active
      else some .cut
    let run (i : InputNo) (c : LineClass) : Nat :=
      if (s.input i).candidate = some c then (s.input i).run + 1 else 1
    let accepts (i : InputNo) (c : LineClass) : Prop := (s.input i).mode = .supervised ∧ read i = some c ∧
      (s.input i).accepted ≠ some c ∧ s.params.confirmCount ≤ run i c
    (s.pinHeld = true → exec (.scannerPass values) s = .next s) ∧
    (s.pinHeld = false → ∃ t : State, exec (.scannerPass values) s = .next t ∧ t.scanDue = s.scanDue + 20 ∧
      t.now = max s.now s.scanDue ∧
      (∀ i, (s.input i).mode = .plain → t.input i = s.input i) ∧
      (∀ i : InputNo, (s.input i).mode = .supervised →
        let x := s.input i
        let y := t.input i
        y.lastValue = some values[i].toNat ∧
        (read i = none ∨ read i = x.accepted → y.accepted = x.accepted ∧ y.candidate = none ∧ y.run = 0 ∧
          y.level = x.level ∧ y.fault = x.fault) ∧
        ∀ c, read i = some c → x.accepted ≠ some c →
          (run i c < s.params.confirmCount → y.accepted = x.accepted ∧ y.candidate = some c ∧
            y.run = run i c ∧ y.level = x.level ∧ y.fault = x.fault) ∧
          (s.params.confirmCount ≤ run i c → y.accepted = some c ∧ y.candidate = none ∧ y.run = 0 ∧
            y.fault = c.fault ∧ y.level = (c.level.getD x.level))) ∧
      let later : State := { s with now := max s.now s.scanDue, scanDue := s.scanDue + 20 }
      let taken (i : InputNo) (c : LineClass) (before after : State) : Prop :=
        let x := s.input i
        let report (kind : RecordKind) (code : Nat) : Report :=
          { kind := kind, door := some (doorOfInput i), room := some (s.roomOf (doorOfInput i))
            detail := some (i.val * 10 + code) }
        let u := before.submitAll
          (if x.fault = c.fault then []
            else (if x.fault = .none then []
                else [report .inputFaultEnd (if c = .normal ∨ c = .active then 0 else 3)]) ++
              match c with
              | .short => [report .inputFault 1]
              | .cut => [report .inputFault 2]
              | .normal | .active => [])
        (c.level = none ∨ c.level = some x.level → after = u) ∧
        ∀ contact, c.level = some (mappedLevel x.polarity contact) →
          mappedLevel x.polarity contact ≠ x.level →
          ∃ w : State, exec (.steadyTimerExpiry i)
              (u.setInput i { x with contact := contact, steady := some u.now }) = .next w ∧
            after = { w with inputs := s.inputs }
      ∃ along : Nat → State, along 0 = later ∧ { t with inputs := s.inputs } = along 32 ∧
        ∀ i : InputNo, ((∀ c, ¬accepts i c) → along (i.val + 1) = along i.val) ∧
          ∀ c, accepts i c → taken i c (along i.val) (along (i.val + 1)))

/-- SET INPUT in STOPPED: an input above 31, or a mode or polarity outside its two, is refused with BAD_VALUE. The
settings an input already holds change nothing. Others restart it, in its new mode, with no fault, after an
INPUT_FAULT_END with code 4 if it stood in a fault state (R152); a plain input starts its steady timer with its bank's
check time, or with the check time off takes the level its contact stands for at once; no other input and no door
changes. In RUNNING it is refused with NOT_STOPPED (R146, R148). That a restart clears the last value and the accepted
class is the model's choice (notes/assumptions/34.md). The order of the payload's fields is the model's
deduction (notes/assumptions/5.md). -/
def Obligations.InputsAreConfigured : Prop :=
  ∀ (r : Req) (s : State) (n m p : Byte), s.addressed r → r.payload = [n, m, p] →
    let ok := n.toNat ≤ 31 ∧ m.toNat ≤ 1 ∧ p.toNat ≤ 1
    let mode : InputMode := if m = 0 then .plain else .supervised
    let polarity : Polarity := if p = 0 then .normallyClosed else .normallyOpen
    (s.run = .running → exec (.setInput r) s = .next (s.heard.owing 0x60 .notStopped .empty)) ∧
    (s.run = .stopped → ¬ok → exec (.setInput r) s = .next (s.heard.owing 0x60 .badValue .empty)) ∧
    (s.run = .stopped → ok → ∀ i : InputNo, i.val = n.toNat →
      let x := s.input i
      let same := x.mode = mode ∧ x.polarity = polarity
      let level := if mode = .plain ∧ s.checkTime i = none then mappedLevel polarity x.contact else .unclassified
      (same → exec (.setInput r) s = .next
        (s.heard.owing 0x60 .accepted (.inputStored i mode polarity x.level))) ∧
      (¬same → s.doorsWf → ∃ t : State, exec (.setInput r) s = .next
          (t.owing 0x60 .accepted (.inputStored i mode polarity level)) ∧
        t.input i =
          { mode := mode, polarity := polarity, contact := x.contact, level := level, fault := .none
            steady := if mode = .plain then (s.checkTime i).map fun ms => s.now + ms else none
            lastValue := none, accepted := none, candidate := none, run := 0 } ∧
        { t with inputs := s.inputs } = s.heard.submitAll (if x.fault = .none then [] else
          [{ kind := .inputFaultEnd, door := some (doorOfInput i), room := some (s.roomOf (doorOfInput i))
             detail := some (i.val * 10 + 4) }]) ∧
        ∀ j, j ≠ i → t.input j = s.input j))

/-- Every input stays well formed: a plain one without fault or confirm run, a supervised one without steady
timer, with the fault state of its accepted class (R146, R150, R151). Every reader entry stays well formed: at
most 8 misses, OFFLINE exactly at 8 and with nothing pending, and the round counter from 0 to 7 (R157, R160,
R164). -/
def Obligations.LinesStayWellFormed : Prop :=
  Kept State.inputsWf ∧ Kept State.readersWf

/-! ## The reader loop (chapter 9) -/

/-- REPLY_WINDOW_EXPIRY and a reply that fails its checks raise the polled reader's miss count, the eighth making it
OFFLINE with READER_OFFLINE; a runt changes nothing at it; no other reader's miss count or state changes, and no
door, room or permit does (R159, R160). A good reply brings the miss count to 0 and the reader to ONLINE, with
READER_ONLINE if it was OFFLINE; a reported tamper state that differs is taken, with its record, and a reply without
a report leaves the flag (R160, R161, R162, R179). A credential that the repeat filter drops leaves what the reply
without it leaves (R163). With no poll in flight nothing happens (R159). When a poll has ended, which is stated for a
runt, the next is that of the lowest reader above it that is due in the round; with none the round ends and the
counter is raised, from 7 back to 0; with none assigned the loop is silent and the counter holds (R157, R158).
Whether an address assigned since the round began is due in it (R157) or not (R121) is a free value
(notes/assumptions/15.md). -/
def Obligations.PollsAreJudged : Prop :=
  ∀ (s : State),
    (∀ a ind ends, s.loop = .poll a ind ends →
      let x := s.reader a
      let report (kind : RecordKind) : Report :=
        { kind := kind, reader := some a, door := (s.assignment a).map Prod.fst
          room := (s.assignment a).map fun y => s.roomOf y.1 }
      let elsewhere (t : State) : Prop :=
        (∀ b, b ≠ a → (t.reader b).misses = (s.reader b).misses ∧ (t.reader b).state = (s.reader b).state ∧
          (t.reader b).tamper = (s.reader b).tamper) ∧
        (∀ b, (t.reader b).last = (s.reader b).last) ∧
        t.doors = s.doors ∧ t.rooms = s.rooms ∧ t.permits = s.permits ∧ t.pairings = s.pairings
      let due (b : ReaderNo) : Prop :=
        (s.assignment b).isSome = true ∧ ((s.reader b).state ≠ .offline ∨ s.round = 0) ∧
          (b ∈ s.roundReaders ∨ Config.assignmentsWaitForRound = false)
      let missed (t : State) : Prop :=
        (t.reader a).misses = min (x.misses + 1) 8 ∧
        (t.reader a).state = (if 7 ≤ x.misses then .offline else x.state) ∧ (t.reader a).tamper = x.tamper ∧
        t.queue = (if 7 ≤ x.misses ∧ x.state ≠ .offline then (s.submit (report .readerOffline)).queue
          else s.queue) ∧ elsewhere t
      let heard (tamper : Bool) (t : State) : Prop :=
        (t.reader a).misses = 0 ∧ (t.reader a).state = .online ∧ (t.reader a).tamper = tamper ∧
        t.queue = (s.submitAll
          ((if x.state = .offline then [report .readerOnline] else []) ++
            if tamper = x.tamper then []
            else if tamper then [report .readerTamper]
            else [{ report .readerTamperEnd with detail := some 0 }])).queue ∧ elsewhere t
      (∃ t : State, exec .replyWindowExpiry s = .next t ∧ missed t) ∧
      (∀ bytes, judgeReply a bytes = .checkFailure →
        ∃ t : State, exec (.replyReceived bytes) s = .next t ∧ missed t) ∧
      (∀ bytes, bytes.length < 4 → ∃ t : State, exec (.replyReceived bytes) s = .next t ∧
        (t.reader a).misses = x.misses ∧ (t.reader a).state = x.state ∧ (t.reader a).tamper = x.tamper ∧
        t.queue = s.queue ∧ elsewhere t ∧
        (s.anyAssigned = false → t.loop = .silent ∧ t.round = s.round) ∧
        (s.anyAssigned = true → s.lastPolled = some a → s.round ≤ 7 →
          (∀ b, a < b → due b → (∀ c, a < c → c < b → ¬due c) →
            t.loop = .poll b (s.reader b).pending (s.now + 15) ∧ t.round = s.round) ∧
          ((∀ b, a < b → ¬due b) → t.round = if s.round = 7 then 0 else s.round + 1))) ∧
      (∀ tamper, ∃ t : State, exec (.replyReceived (replyFrame a tamper none)) s = .next t ∧ heard tamper t) ∧
      (∃ t : State, exec (.replyReceived (withCrc [4, byteOf (a.val + 1)])) s = .next t ∧ heard x.tamper t) ∧
      ∀ (tamper : Bool) (c : Credential) (moment : Nat), x.last = some ⟨c, moment⟩ →
        s.now < moment + s.params.repeatInterval * 1000 →
        exec (.replyReceived (replyFrame a tamper (some c))) s =
          exec (.replyReceived (replyFrame a tamper none)) s) ∧
    (s.loop = .silent ∨ (∃ ends, s.loop = .quiet ends) →
      exec .replyWindowExpiry s = .next s ∧ ∀ bytes, exec (.replyReceived bytes) s = .next s)

/-- QUIET_INTERVAL_EXPIRY: with a reader assigned the round counter is raised, from 7 back to 0, and the next
round begins with a poll of the lowest reader due in it, carrying its pending indication, or with another quiet
interval; with none assigned the loop is silent and the counter holds (R157, R158). The elapsed time that an
expiry leaves is the model's choice (notes/assumptions/1.md). -/
def Obligations.QuietIntervalsEndRounds : Prop :=
  ∀ (s : State) (ends : Nat), s.loop = .quiet ends →
    (s.anyAssigned = false → exec .quietIntervalExpiry s = .next
      { s with now := max s.now ends, loop := .silent }) ∧
    (s.anyAssigned = true → s.round ≤ 7 →
      ∃ t : State, exec .quietIntervalExpiry s = .next t ∧ t.round = (if s.round = 7 then 0 else s.round + 1) ∧
        (∀ a, (∀ b < a, ¬((s.assignment b).isSome = true ∧
              ((s.reader b).state ≠ .offline ∨ t.round = 0))) →
          (s.assignment a).isSome = true → ((s.reader a).state ≠ .offline ∨ t.round = 0) →
          t.loop = .poll a (s.reader a).pending (max s.now ends + 15) ∧ (t.reader a).pending = none) ∧
        ((∀ a, ¬((s.assignment a).isSome = true ∧ ((s.reader a).state ≠ .offline ∨ t.round = 0))) →
          t.loop = .quiet (max s.now ends + 15)))

/-! ## Decisions (chapters 3 and 4) -/

/-- REPLY_RECEIVED with a presentation that is denied (R43 to R65). Reader without a door: UNASSIGNED_READER (R44).
At an entry reader, the first check to fail gives the reason, the ENTRY_DENIED record and the reader's DENY: the run
state, mode and fault of the door (R46); revocation (R47); no permit, or an UNSET clock under DENY (R48); the deepest
failure of the permits, of the lowest slot (R54); then, for the first permit to pass (R53), the head-end (R56),
passback (R57), the cap and the pool (R59), and for a new entry, whether or not the credential holds one elsewhere,
the pairing table where the policy pairs (R60, R72, R73), and the list of the door's release where it grants alone
(R61). The denials of a whole group stand in GroupsAreCompleted. No permit, room, pairing record or door changes. -/
def Obligations.PresentationsAreDenied : Prop :=
  ∀ (s : State) (a : ReaderNo) (c : Credential) (ind : Option Indication) (ends : Nat),
    s.loop = .poll a ind ends → (s.reader a).state ≠ .offline → s.repeats a c = false →
    let refuses (report : Report) (told : State → Prop) : Prop :=
      ∃ t : State, exec (.replyReceived (replyFrame a (s.reader a).tamper (some c))) s = .next t ∧
        t.queue = (s.submit report).queue ∧ t.permits = s.permits ∧ t.rooms = s.rooms ∧
        t.pairings = s.pairings ∧ t.doors = s.doors ∧ (t.reader a).last = some ⟨c, s.now⟩ ∧ told t
    (s.assignment a = none → refuses
      { kind := .unassignedReader, reader := some a, credential := some c } fun _ => True) ∧
    ∀ k, s.assignment a = some (k, .entry) →
      let d := s.door k
      let room := s.roomOf k
      let settings := (s.room room).settings
      let denies (reason : Reason) (permit : Option (Nat × Nat)) : Prop := refuses
        { kind := .entryDenied, door := some k, room := some room, reader := some a, credential := some c
          slot := permit.map Prod.fst, workOrder := permit.map Prod.snd, reason := some reason }
        fun t => t.tells a (.deny reason)
      let faulty := d.settings.denyOnFault = true ∧ (s.input ⟨2 * k.val, by omega⟩).fault ≠ .none
      let slots := s.permits.filter fun e => e.2.permit.credential == c
      let check (e : Nat × PermitSlot) := s.checkSlot room s.clock e.1 e.2
      (s.run = .stopped → denies .notRunning none) ∧
      (s.run = .running → d.mode = .outOfService → denies .doorOutOfService none) ∧
      (s.run = .running → d.mode = .lockdown → denies .lockdown none) ∧
      (s.run = .running → d.mode = .normal → faulty → denies .doorFault none) ∧
      (s.run = .running → d.mode = .normal → ¬faulty →
        (c ≠ 0 → c ∈ s.exactList → denies .revoked none) ∧
        (c ≠ 0 → c ∉ s.exactList → positionOf c ∈ s.filter → denies .revokedFilter none) ∧
        (c = 0 ∨ (c ∉ s.exactList ∧ positionOf c ∉ s.filter) →
          (slots = [] → denies .unknownCredential none) ∧
          (slots ≠ [] → s.clock.state = .unset → s.params.policy = .deny → denies .clockUnset none) ∧
          (s.clock.state = .set ∨ s.params.policy = .dateless → ∀ before n x after,
            slots = before ++ (n, x) :: after →
            (∀ reason, check (n, x) = some reason →
              (∀ e ∈ before, ∃ r, check e = some r ∧ depthOf r < depthOf reason) →
              (∀ e ∈ after, ∃ r, check e = some r ∧ depthOf r ≤ depthOf reason) →
              denies reason (some (n, x.permit.workOrder))) ∧
            (check (n, x) = none → (∀ e ∈ before, check e ≠ none) →
              let refused (reason : Reason) : Prop := denies reason (some (n, x.permit.workOrder))
              let offline := x.permit.role = .contractor ∧ settings.onlineOnly = true ∧ s.link = .offline
              let full := settings.cap ≤ (s.room room).entries.length
              let outside := s.findEntry c = none
              (offline → refused .headendOffline) ∧
              (¬offline →
                (∀ e, s.findEntry c = some (room, e) → e.state = .confirmed → settings.passback = true →
                  refused .passback) ∧
                (outside → full → refused .roomFull) ∧
                (∀ q e, s.findEntry c = some (q, e) → q ≠ room → full → refused .roomFull) ∧
                (outside → ¬full → 128 ≤ s.totalEntries → refused .occupancyFull) ∧
                (∀ e, s.findEntry c = some (room, e) → e.state = .provisional → e.door ≠ k →
                  settings.cap < (s.room room).entries.length → refused .roomFull) ∧
                (s.mayEnter k c →
                  (s.grantsAlone room → d.state = .secure ∨ d.state = .released →
                    8 ≤ d.provisional.length → refused .doorBusy) ∧
                  (s.pairsUp room → s.pairing k = none → 8 ≤ s.openPairings → refused .pairingBusy) ∧
                  (s.pairsUp room → x.permit.role = .contractor → ∀ p, s.pairing k = some p →
                    p.escort = none → 4 ≤ p.contractors.length → (∀ m ∈ p.contractors, m.credential ≠ c) →
                    refused .groupFull)))))))

/-- REPLY_RECEIVED with a presentation at an exit reader, in every run state and mode: the credential's entry in the
door's room is removed and no other, with EXIT and then the record of the room's supervision check (R86), or
EXIT_UNMATCHED is queued; the reader is told EXIT, and no daily count or pairing record changes (R66). The entry's
reference leaves its door's list (R96, R136). The door is released where its exit-releases setting, RUNNING and its
mode allow, and no other door changes (R67, R127). An EXIT record names the entry door
(R96), also where the person leaves by another door; that the door of R66 is this one is the model's reading
(notes/assumptions/11.md). An EXIT_UNMATCHED record names the door of the presentation (R66). -/
def Obligations.ExitsAreTaken : Prop :=
  ∀ (s : State) (a : ReaderNo) (k : DoorNo) (c : Credential) (ind : Option Indication) (ends : Nat),
    s.loop = .poll a ind ends → s.assignment a = some (k, .exit) → s.repeats a c = false →
    let room := s.roomOf k
    ∃ t : State, exec (.replyReceived (replyFrame a (s.reader a).tamper (some c))) s = .next t ∧
      (∀ p, (t.room p).entries = if p = room then
        (s.room p).entries.filter (fun e => e.credential ≠ c) else (s.room p).entries) ∧
      t.permits = s.permits ∧ t.pairings = s.pairings ∧ (t.reader a).last = some ⟨c, s.now⟩ ∧ t.tells a .exit ∧
      ((s.reader a).state ≠ .offline →
        (∀ e before after, (s.room room).entries = before ++ e :: after → e.credential = c →
          (∀ y ∈ before, y.credential ≠ c) →
          t.queue = (s.submitAll
            ({ kind := .exit, door := some e.door, room := some room
               reader := some a, credential := some c, slot := some e.slot
               workOrder := some e.workOrder } :: s.checkReport t room)).queue) ∧
        ((∀ e ∈ (s.room room).entries, e.credential ≠ c) →
          t.queue = (s.submit
            { kind := .exitUnmatched, door := some k, room := some room, reader := some a
              credential := some c }).queue)) ∧
      (s.occupancyWf → s.referencesWf → s.doorsWf → ∀ j,
        let d := { s.door j with
          provisional := if ∃ e ∈ (s.room room).entries, e.credential = c then
            (s.door j).provisional.filter (· ≠ c) else (s.door j).provisional }
        t.door j = if j = k ∧ d.settings.exitReleases = true ∧ s.run = .running ∧ d.mode ≠ .outOfService then
          d.releasing s.now else d)

/-- REPLY_RECEIVED with a presentation that is granted alone, at a SINGLE room or an ESCORT_PRESENT one with an
escort inside (R60). A new entry: the door is released (R127), the entry stands at the end of the room's list with
the fields of the qualifying permit, PROVISIONAL with its reference at a closed door and CONFIRMED at an open one,
the slot's count is raised, and ENTRY_GRANTED and GRANT go out (R53, R61, R62, R64, R93, R136). An entry in another
room is removed with IMPLIED_EXIT first, a PROVISIONAL one at another door of the room with NOT_ENTERED, and the
count of a PROVISIONAL one is handed back (R7, R57, R62, R96). A credential that waits in a pairing record leaves it
with PAIRING_ABANDONED (R71), and the records of the supervision checks come last (R64, R86). A PROVISIONAL entry at
this door is a re-grant: the release is restarted, and REGRANT names its slot (R58). Over its own CONFIRMED entry in a
room without passback the entry takes slot, role, work order and entitled-until of this decision (R63). That the room
left is checked before the door's room, and that PAIRING_ABANDONED comes first, is the model's choice, because no rule
orders them (notes/assumptions/10.md), and so is that a count which stopped at 15 is handed back like any other
(notes/assumptions/35.md). -/
def Obligations.SingleEntriesAreGranted : Prop :=
  ∀ (s : State) (a : ReaderNo) (k : DoorNo) (c : Credential) (q : Qualifying)
    (ind : Option Indication) (ends : Nat),
    s.loop = .poll a ind ends → s.assignment a = some (k, .entry) → s.repeats a c = false →
    s.stage1 k = none → s.stage2 c = none →
    s.searchPermits (s.roomOf k) s.clock (s.slotsOf c) = .qualifies q →
    s.needsHeadEnd (s.roomOf k) q.permit.role = false → (s.door k).state ≠ .idle →
    let room := s.roomOf k
    let d := s.door k
    let wide := d.state = .opened ∨ d.state = .held ∨ d.state = .forced
    let alone := s.grantsAlone room
    let answers (t : State) : Prop :=
      exec (.replyReceived (replyFrame a (s.reader a).tamper (some c))) s = .next t ∧ t.tells a .grant
    let entry : Entry :=
      { credential := c, role := q.permit.role, slot := q.slot, workOrder := q.permit.workOrder
        door := k, state := if wide then .confirmed else .provisional, granted := s.clock.minuteStamp
        confirmed := if wide then s.clock.minuteStamp else none
        entitled := s.entitledUntil q.permit s.clock, overstay := false, revokedInside := false }
    let raised (m : Nat) (p : PermitSlot) : PermitSlot :=
      if m = q.slot then { p with count := min (p.count + 1) 15 } else p
    let granted : Report :=
      { kind := .entryGranted, door := some k, room := some room, reader := some a, credential := some c
        slot := some q.slot, workOrder := some q.permit.workOrder
        detail := s.entitledUntil q.permit s.clock }
    let queued (t : State) (reports : List Report) (rooms : List RoomNo) : Prop :=
      (s.reader a).state ≠ .offline → s.pairingsWf →
      t.queue = (s.submitAll (s.abandonedReports c ++ reports ++ rooms.flatMap (s.checkReport t))).queue ∧
      ∀ j, t.pairing j = s.pairingWithout c j
    (alone → s.findEntry c = none → s.entryCount room < (s.room room).settings.cap → s.totalEntries < 128 →
      wide ∨ d.provisional.length < 8 →
      ∃ t : State, answers t ∧
        t.door k = { d.releasing s.now with provisional := d.provisional ++ if wide then [] else [c] } ∧
        (∀ j, j ≠ k → t.door j = s.door j) ∧
        (∀ p, (t.room p).entries = (s.room p).entries ++ if p = room then [entry] else []) ∧
        (∀ m, t.slot m = (s.slot m).map (raised m)) ∧ queued t [granted] [room]) ∧
    (∀ r e, alone → s.findEntry c = some (r, e) →
      (r ≠ room ∧ s.entryCount room < (s.room room).settings.cap) ∨
        (r = room ∧ e.state = .provisional ∧ e.door ≠ k ∧
          s.entryCount room ≤ (s.room room).settings.cap) →
      wide ∨ d.provisional.length < 8 →
      s.occupancyWf → s.referencesWf →
      let left (j : DoorNo) : List Credential := (s.door j).provisional.filter (· ≠ c)
      ∃ t : State, answers t ∧
        t.door k = { d.releasing s.now with provisional := left k ++ if wide then [] else [c] } ∧
        (∀ j, j ≠ k → t.door j = { s.door j with provisional := left j }) ∧
        (∀ p, (t.room p).entries = (s.room p).entries.filter (fun y => y.credential ≠ c) ++
          if p = room then [entry] else []) ∧
        (∀ m, t.slot m = (s.slot m).map fun p =>
          raised m (if e.state = .provisional ∧ m = e.slot ∧ p.permit.credential = c ∧
            p.permit.workOrder = e.workOrder then { p with count := p.count - 1 } else p)) ∧
        queued t
          [{ kind := if r = room then .notEntered else .impliedExit, door := some e.door
             room := some r, credential := some c, slot := some e.slot
             workOrder := some e.workOrder }, granted]
          (if r = room then [room] else [r, room])) ∧
    (∀ e, s.findEntry c = some (room, e) → e.state = .provisional → e.door = k →
      ∃ t : State, answers t ∧
        t.door k = { d with
          release := if d.release.isSome then some (s.now + d.settings.releaseTime * 1000) else none } ∧
        (∀ j, j ≠ k → t.door j = s.door j) ∧ t.rooms = s.rooms ∧ t.permits = s.permits ∧
        t.pairings = s.pairings ∧
        ((s.reader a).state ≠ .offline → t.queue = (s.submit
          { kind := .regrant, door := some k, room := some room, reader := some a, credential := some c
            slot := some e.slot, workOrder := some e.workOrder }).queue)) ∧
    ∀ e, s.findEntry c = some (room, e) → e.state = .confirmed → (s.room room).settings.passback = false →
      wide ∨ d.provisional.length ≤ 8 →
      ∃ t : State, answers t ∧ t.door k = d.releasing s.now ∧ (∀ j, j ≠ k → t.door j = s.door j) ∧
        (∀ p, (t.room p).entries = (s.room p).entries.map fun y =>
          if p = room ∧ y.credential = c then
            { y with
              role := q.permit.role, slot := q.slot, workOrder := q.permit.workOrder
              entitled := s.entitledUntil q.permit s.clock }
          else y) ∧
        (∀ m, t.slot m = (s.slot m).map (raised m)) ∧
        queued t [granted] [room]

/-- REPLY_RECEIVED with a presentation that waits at the pairing table, at an ESCORTED room or an ESCORT_PRESENT one
with no escort inside (R60). At a door with no record it opens one of its role, with its deadline a pairing window
away (R70, R72). A contractor joins a contractor record with a place at the end of its list, and its deadline stays
(R73). An escort replaces another escort, which leaves with PAIRING_ABANDONED, and the deadline is fresh (R74). A
member that presents again finds the record as it was (R75). Each is answered WAIT, with an ENTRY_PENDING record that
counts the members (R69). An arrival that waits at another door leaves that record, with PAIRING_ABANDONED first, and
a record left empty closes (R71). No permit, room or door changes. That the PAIRING_ABANDONED of R71 stands before
that of R74 is the model's choice (notes/assumptions/10.md). -/
def Obligations.EscortedArrivalsWait : Prop :=
  ∀ (s : State) (a : ReaderNo) (k : DoorNo) (c : Credential) (q : Qualifying),
    s.qualifiesAt a k c q → s.mayEnter k c → s.pairsUp (s.roomOf k) → s.pairingsWf →
    let m : Member := ⟨c, q.slot, q.permit.workOrder⟩
    let deadline := s.now + s.params.pairingWindow * 1000
    let waits (left : List Report) (members : Nat) (record : PairingRecord) : Prop :=
      ∃ t : State, exec (.replyReceived (replyFrame a (s.reader a).tamper (some c))) s = .next t ∧
        t.tells a .wait ∧ (∀ j, t.pairing j = if j = k then some record else s.pairingWithout c j) ∧
        t.queue = (s.submitAll (left ++
          [{ kind := .entryPending, door := some k, room := some (s.roomOf k), reader := some a
             credential := some c, slot := some q.slot, workOrder := some q.permit.workOrder
             detail := some members }])).queue ∧
        t.rooms = s.rooms ∧ t.permits = s.permits ∧ t.doors = s.doors
    (s.pairing k = none → s.openPairings < 8 →
      waits (s.abandonedReports c) 1
        ⟨if q.permit.role = .escort then some m else none, if q.permit.role = .contractor then [m] else [],
          s.now, deadline⟩) ∧
    ∀ p, s.pairing k = some p →
      let members := p.escort.toList ++ p.contractors
      ((∀ x ∈ members, x.credential ≠ c) →
        (q.permit.role = .contractor → p.escort = none → p.contractors.length < 4 →
          waits (s.abandonedReports c) (p.contractors.length + 1)
            { p with contractors := p.contractors ++ [m] }) ∧
        (q.permit.role = .escort → ∀ e, p.escort = some e →
          waits (s.abandonedReports c ++
            [{ kind := .pairingAbandoned, door := some k, room := some (s.roomOf k)
               credential := some e.credential, slot := some e.slot, workOrder := some e.workOrder }]) 1
            ⟨some m, [], s.now, deadline⟩)) ∧
      ((∃ x ∈ members, x.credential = c) → waits [] members.length p)

/-- The re-check of a held member (R77), in its order: revocation (R47); the search of the credential's permits of
the member's role, with UNKNOWN_CREDENTIAL when there is none and the deepest failure of the lowest slot when none
passes (R48, R53, R54); the head-end, for a contractor at an online-only room (R56); and passback, for a CONFIRMED
entry in the room (R57). A failure carries its slot and work order, and one that has none those under which the
member arrived: the model's deduction (notes/assumptions/13.md). -/
def Obligations.HeldMembersAreRechecked : Prop :=
  ∀ (s : State) (k : DoorNo) (reading : Clock) (role : Role) (m : Member),
    let room := s.roomOf k
    let settings := (s.room room).settings
    let c := m.credential
    let fails (reason : Reason) (slot workOrder : Nat) : Prop :=
      s.recheck k reading role m = .failed reason (some (slot, workOrder))
    let slots := s.permits.filter fun e => e.2.permit.credential == c && e.2.permit.role == role
    let check (e : Nat × PermitSlot) := s.checkSlot room reading e.1 e.2
    (c ≠ 0 → c ∈ s.exactList → fails .revoked m.slot m.workOrder) ∧
    (c ≠ 0 → c ∉ s.exactList → positionOf c ∈ s.filter → fails .revokedFilter m.slot m.workOrder) ∧
    (c = 0 ∨ (c ∉ s.exactList ∧ positionOf c ∉ s.filter) →
      (slots = [] → fails .unknownCredential m.slot m.workOrder) ∧
      (slots ≠ [] → reading.state = .unset → s.params.policy = .deny → fails .clockUnset m.slot m.workOrder) ∧
      (reading.state = .set ∨ s.params.policy = .dateless → ∀ before n x after,
        slots = before ++ (n, x) :: after →
        (∀ reason, check (n, x) = some reason →
          (∀ e ∈ before, ∃ r, check e = some r ∧ depthOf r < depthOf reason) →
          (∀ e ∈ after, ∃ r, check e = some r ∧ depthOf r ≤ depthOf reason) →
          fails reason n x.permit.workOrder) ∧
        (check (n, x) = none → (∀ e ∈ before, check e ≠ none) →
          let offline := role = .contractor ∧ settings.onlineOnly = true ∧ s.link = .offline
          let inside := ∃ e, s.findEntry c = some (room, e) ∧ e.state = .confirmed
          (offline → fails .headendOffline n x.permit.workOrder) ∧
          (¬offline → inside → settings.passback = true → fails .passback n x.permit.workOrder) ∧
          (¬offline → ¬(inside ∧ settings.passback = true) →
            s.recheck k reading role m = .passed ⟨n, x.permit⟩))))

/-- REPLY_RECEIVED with a presentation that completes the door's record: a contractor to an escort record, an escort
to a contractor record (R76). An escort that fails its re-check fails both with its reason (R78). Contractors that
fail are denied, each with its own reason, and the rest go on; with none left the escort waits in a record of its own
(R79). The group, escort first, is denied as a whole where the room's cap, the pool or the door's list has no place
for it (R80, R81). Otherwise every member is granted in turn: its entry elsewhere is removed, its new one placed, or
its own CONFIRMED one granted over, its count raised, with IMPLIED_EXIT or NOT_ENTERED and ENTRY_GRANTED; the
supervision checks follow, the reader is told GRANT and the record closes (R62, R63, R81, R86, R127). That the
arriving member is withdrawn from another door's record with PAIRING_ABANDONED is the model's deduction: R71
withdraws it, while R81 remarks that no member granted here is withdrawn from another record
(notes/assumptions/14.md). That a denial names the arrival's reader (11.md), and that a dropped contractor whose
re-check gives no slot is recorded under the slot it arrived with (13.md), are its deductions too. Where the records
of R71, R79 and R86 stand, which no rule orders, is the model's choice (notes/assumptions/10.md), and so is that a
count which stopped at 15 is handed back like any other (notes/assumptions/35.md). -/
def Obligations.GroupsAreCompleted : Prop :=
  ∀ (s : State) (a : ReaderNo) (k : DoorNo) (c : Credential) (q : Qualifying) (p : PairingRecord),
    s.qualifiesAt a k c q → s.mayEnter k c → s.pairsUp (s.roomOf k) → s.pairingsWf → s.occupancyWf →
    s.referencesWf → s.pairing k = some p → (∀ x ∈ p.escort.toList ++ p.contractors, x.credential ≠ c) →
    (q.permit.role = .contractor ↔ p.escort.isSome = true) →
    let room := s.roomOf k
    let d := s.door k
    let answers (t : State) : Prop :=
      exec (.replyReceived (replyFrame a (s.reader a).tamper (some c))) s = .next t
    let closed (t : State) : Prop := t.rooms = s.rooms ∧ t.permits = s.permits ∧ t.doors = s.doors
    let fails (before : List Report) (reason : Reason) (group : List (Credential × Nat × Nat)) : Prop :=
      ∃ t : State, answers t ∧ (∀ j, t.pairing j = if j = k then none else s.pairing j) ∧
        t.queue = (s.submitAll (before ++
          group.map fun x => s.deniedReport k a reason x.1 x.2.1 x.2.2)).queue ∧
        closed t ∧ t.tells a (.deny reason)
    let dropped : List Report := p.contractors.flatMap fun x =>
      match s.recheck k s.clock .contractor x with
      | .failed reason (some (n, w)) => [s.deniedReport k a reason x.credential n w]
      | .failed _ none | .passed _ => []
    let kept : List (Credential × Qualifying) := p.contractors.flatMap fun x =>
      match s.recheck k s.clock .contractor x with
      | .passed held => [(x.credential, held)]
      | .failed _ _ => []
    (∀ e reason permit, p.escort = some e → s.recheck k s.clock .escort e = .failed reason permit →
      fails [] reason [(e.credential, e.slot, e.workOrder), (c, q.slot, q.permit.workOrder)]) ∧
    (p.escort = none → kept = [] → ∃ t : State, answers t ∧ t.tells a .wait ∧ closed t ∧
      (∀ j, t.pairing j = if j = k then
        some ⟨some ⟨c, q.slot, q.permit.workOrder⟩, [], s.now, s.now + s.params.pairingWindow * 1000⟩
        else s.pairingWithout c j) ∧
      t.queue = (s.submitAll (dropped ++ s.abandonedReports c ++
        [{ kind := .entryPending, door := some k, room := some room, reader := some a, credential := some c
           slot := some q.slot, workOrder := some q.permit.workOrder, detail := some 1 }])).queue) ∧
    ∀ group : List (Credential × Qualifying),
      (∃ e held, p.escort = some e ∧ s.recheck k s.clock .escort e = .passed held ∧
        group = [(e.credential, held), (c, q)]) ∨ (p.escort = none ∧ kept ≠ [] ∧ group = (c, q) :: kept) →
      let member (x : Credential) : Bool := group.any fun g => g.1 == x
      let entered (x : Credential) : Bool := (s.room room).entries.any fun e => e.credential == x
      let settled (x : Credential) : Bool := (s.room room).entries.any fun e =>
        e.credential == x && e.state == .confirmed
      let placed := group.filter fun g => !settled g.1
      let adds := group.countP fun g => !entered g.1
      let freed := group.countP fun g => !entered g.1 && (s.findEntry g.1).isSome
      let full := (s.room room).settings.cap < s.entryCount room + adds
      let drained := 128 - s.totalEntries < adds - freed
      let busy := (d.state = .secure ∨ d.state = .released) ∧ 8 < d.provisional.length + placed.length
      let wide := d.state = .opened ∨ d.state = .held ∨ d.state = .forced
      let failsWhole (reason : Reason) : Prop :=
        fails dropped reason (group.map fun g => (g.1, g.2.slot, g.2.permit.workOrder))
      let leaves (r : RoomNo) (e : Entry) : Bool :=
        member e.credential && !(r == room && e.state == .confirmed)
      let left (j : DoorNo) : List Credential := (s.door j).provisional.filter fun x => !member x
      let entry (g : Credential × Qualifying) : Entry :=
        { credential := g.1, role := g.2.permit.role, slot := g.2.slot, workOrder := g.2.permit.workOrder
          door := k, state := if wide then .confirmed else .provisional, granted := s.clock.minuteStamp
          confirmed := if wide then s.clock.minuteStamp else none
          entitled := s.entitledUntil g.2.permit s.clock, overstay := false, revokedInside := false }
      let grants (g : Credential × Qualifying) : List Report :=
        (sixteen.flatMap fun r => ((s.room r).entries.filter fun e => e.credential == g.1 && leaves r e).map
          fun e =>
            { kind := if r = room then .notEntered else .impliedExit, door := some e.door, room := some r
              credential := some g.1, slot := some e.slot, workOrder := some e.workOrder }) ++
        [{ kind := .entryGranted, door := some k, room := some room, reader := some a, credential := some g.1
           slot := some g.2.slot, workOrder := some g.2.permit.workOrder
           detail := s.entitledUntil g.2.permit s.clock }]
      let others := (group.filterMap fun g => (s.findEntry g.1).map Prod.fst).filter (· ≠ room)
      (full → failsWhole .roomFull) ∧
      (¬full → drained → failsWhole .occupancyFull) ∧
      (¬full → ¬drained → busy → failsWhole .doorBusy) ∧
      (¬full → ¬drained → ¬busy → d.state ≠ .idle → ∃ t : State, answers t ∧ t.tells a .grant ∧
        (∀ j, t.pairing j = if j = k then none else s.pairingWithout c j) ∧
        t.door k = { d.releasing s.now with
          provisional := left k ++ if wide then [] else placed.map Prod.fst } ∧
        (∀ j, j ≠ k → t.door j = { s.door j with provisional := left j }) ∧
        (∀ r, (t.room r).entries = (((s.room r).entries.filter fun e => !leaves r e).map fun e =>
            match group.find? fun g => g.1 == e.credential with
            | some g => { e with
                role := g.2.permit.role, slot := g.2.slot, workOrder := g.2.permit.workOrder
                entitled := s.entitledUntil g.2.permit s.clock }
            | none => e) ++ if r = room then placed.map entry else []) ∧
        (∀ n, t.slot n = (s.slot n).map fun x => group.foldl (fun x g =>
          let y := handedBack (s.allEntries.filter fun e => e.credential == g.1 && e.state == .provisional) n x
          if n = g.2.slot then { y with count := min (y.count + 1) 15 } else y) x) ∧
        t.queue = (s.submitAll (dropped ++ s.abandonedReports c ++ group.flatMap grants ++
          (others.eraseDups ++ [room]).flatMap (s.checkReport t))).queue)

/-- PAIRING_DEADLINE_EXPIRY: the record at the door closes, every member is denied with PAIRING_TIMEOUT, escort
first and then contractors in list order, each with the slot and work order it arrived under; the door's entry reader
is given DENY PAIRING_TIMEOUT where an indication reaches it (R164), and no other reader entry, no entry, permit, door
or other record changes. Without a record nothing happens (R82). The elapsed time that an expiry leaves is
the model's choice (notes/assumptions/1.md). -/
def Obligations.PairingsTimeOut : Prop :=
  ∀ (k : DoorNo) (s : State),
    (s.pairing k = none → exec (.pairingDeadlineExpiry k) s = .next s) ∧
    ∀ p, s.pairing k = some p →
      ∃ t : State, exec (.pairingDeadlineExpiry k) s = .next t ∧ t.now = max s.now p.deadline ∧
        (∀ j, t.pairing j = if j = k then none else s.pairing j) ∧
        t.queue = (s.submitAll ((p.escort.toList ++ p.contractors).map fun m =>
          { kind := .entryDenied, door := some k, room := some (s.door k).settings.room
            reader := (s.door k).settings.entryReader, credential := some m.credential
            slot := some m.slot, workOrder := some m.workOrder, reason := some .pairingTimeout })).queue ∧
        (∀ a, t.reader a = if (s.door k).settings.entryReader = some a ∧ s.reaches a = true then
          { s.reader a with pending := some (.deny .pairingTimeout) } else s.reader a) ∧ t.loop = s.loop ∧
        t.rooms = s.rooms ∧ t.permits = s.permits ∧ t.doors = s.doors

/-! ## The controller (chapter 10) -/

/-- START, addressed, or broadcast with the same effect and no response: in RUNNING accepted with no change; in
STOPPED refused with CONFIG_INCONSISTENT when a check fails; and else the controller is RUNNING, every channel in
service in NORMAL or LOCKDOWN settles from its door-position level, and no other channel changes (R125, R142,
R171). The first check that fails decides: a channel in service whose room is not in use, one without an entry
reader, and the lowest reader address named twice (R171). -/
def Obligations.ControllerStarts : Prop :=
  (∀ (r : Req) (s : State), s.receives r = true → r.payload = [] →
      let answers (t : State) (code : ResultCode) (data : ResponseData) : Prop :=
        exec (.start r) s = .next (if r.broadcast then t else t.owing 0x04 code data)
      (s.run = .running → answers s.heard .accepted .empty) ∧
      (∀ check item, s.run = .stopped → s.startFault = some (check, item) →
        answers s.heard .configInconsistent (.configFault check item)) ∧
      (s.run = .stopped → s.startFault = none → s.doorsWf → (∀ k, (s.door k).egress = none) →
        ∃ t : State, answers t .accepted .empty ∧ t.run = .running ∧
          t.queue = (s.heard.submit { kind := .controllerStarted }).queue ∧ t.rooms = s.rooms ∧
          ∀ k : DoorNo,
            let d := s.door k
            let level := (s.input ⟨2 * k.val, by omega⟩).level
            t.door k =
              if d.settings.inService = false ∨ d.mode = .outOfService then d
              else if level = .active then
                { d with
                  state := .opened, lock := d.settings.lockType.secureLevel
                  allowance := some (s.now + d.settings.openAllowance * 1000) }
              else { d with state := .secure, lock := d.settings.lockType.secureLevel })) ∧
  (∀ s : State,
      let serving (k : DoorNo) : Prop := (s.door k).settings.inService = true
      let idleRoom (k : DoorNo) : Prop := serving k ∧ (s.room (s.roomOf k)).settings.inUse = false
      let noReader (k : DoorNo) : Prop := serving k ∧ (s.door k).settings.entryReader = none
      let names (k : DoorNo) (exit : Bool) (a : ReaderNo) : Prop :=
        serving k ∧ (if exit then (s.door k).settings.exitReader else (s.door k).settings.entryReader) = some a
      let repeated (a : ReaderNo) : Prop :=
        ∃ k e j f, names k e a ∧ names j f a ∧ (k, e) ≠ (j, f)
      (∀ k, idleRoom k → (∀ j < k, ¬idleRoom j) → s.startFault = some (1, k.val)) ∧
      (∀ k, (∀ j, ¬idleRoom j) → noReader k → (∀ j < k, ¬noReader j) →
        s.startFault = some (2, k.val)) ∧
      (∀ a : ReaderNo, (∀ j, ¬idleRoom j) → (∀ j, ¬noReader j) → repeated a → (∀ b < a, ¬repeated b) →
        s.startFault = some (3, a.val + 1)) ∧
      ((∀ j, ¬idleRoom j) → (∀ j, ¬noReader j) → (∀ a, ¬repeated a) → s.startFault = none))

/-- STOP, addressed or broadcast: in STOPPED nothing but the frame is noted; in RUNNING the controller is STOPPED,
every channel is IDLE with its timers stopped, its list empty, its sounder OFF and its lock at the park level, no
pairing record is open, and CONFIRMED entries, settings and modes are kept; the PROVISIONAL entries are removed with
their counts handed back. Its records are CONTROLLER_STOPPED, the cancelled members of all doors, the NOT_ENTERED
entries of all doors, and the alarm ends of all doors, each in ascending door number (R7, R83, R98, R142, R172). The
entry reader of each door with a record is given DENY PAIRING_CANCELLED where an indication reaches it, and no other
reader entry changes (R83, R164). That a cancelled member's denial names the door's entry reader (R65) is the model's
deduction (notes/assumptions/11.md), and that a count which stopped at 15 is handed back like any other its choice
(notes/assumptions/35.md). -/
def Obligations.ControllerStops : Prop :=
  ∀ (r : Req) (s : State), s.receives r = true → r.payload = [] → s.occupancyWf → s.referencesWf →
    (s.run = .stopped → exec (.stop r) s = .next
      (if r.broadcast then s.heard else s.heard.owing 0x05 .accepted .empty)) ∧
    (s.run = .running → ∃ t : State, exec (.stop r) s = .next
        (if r.broadcast then t else t.owing 0x05 .accepted .empty) ∧ t.run = .stopped ∧
      (∀ k, t.pairing k = none) ∧
      (∀ k, t.door k = (s.door k).parked) ∧
      (∀ q, (t.room q).entries = (s.room q).entries.filter fun e => e.state == .confirmed) ∧
      (∀ n, t.slot n = (s.slot n).map (handedBack (s.allEntries.filter fun e => e.state == .provisional) n)) ∧
      (s.supervisionWf → t.queue = (s.heard.submitAll ({ kind := .controllerStopped } ::
        (sixteen.flatMap s.cancelReports ++ sixteen.flatMap s.notEnteredReports ++
          sixteen.flatMap s.alarmReports))).queue) ∧
      (∀ a, t.reader a =
        if (∃ k, (s.pairing k).isSome = true ∧ (s.door k).settings.entryReader = some a) ∧ s.reaches a = true then
          { s.reader a with pending := some (.deny .pairingCancelled) }
        else s.reader a) ∧ t.loop = s.loop ∧
      t.settings = s.settings)

/-- SET CONTROLLER: refused with NOT_STOPPED in RUNNING. In STOPPED, a policy, bank check time, threshold or record
priority that R174 does not allow is refused with BAD_VALUE and leaves every parameter as it was; otherwise the
pairing window, repeat interval, silence timeout and confirm count are clamped, the parameters take the stored
values, the response carries them, and nothing else changes (R174, R177, R178). A set of parameters in range
travels and returns unchanged (R177, R178). The order of the payload's fields is the model's deduction
(notes/assumptions/5.md). -/
def Obligations.ParametersAreStored : Prop :=
  (∀ (r : Req) (s : State) (w re t1 t0 po b0 b1 b2 b3 h1 h0 n1 n0 a1 a0 o1 o0 cc : Byte) (priorities : List Byte),
    s.addressed r → priorities.length = 35 →
    r.payload = [w, re, t1, t0, po, b0, b1, b2, b3, h1, h0, n1, n0, a1, a0, o1, o0, cc] ++ priorities →
    let short := h1.toNat * 256 + h0.toNat
    let normal := n1.toNat * 256 + n0.toNat
    let active := a1.toNat * 256 + a0.toNat
    let top := o1.toNat * 256 + o0.toNat
    let ok := po.toNat ≤ 1 ∧ (∀ b ∈ [b0, b1, b2, b3], b.toNat ≤ 5) ∧ 1 ≤ short ∧ short < normal ∧
      normal < active ∧ active < top ∧ top ≤ 1023 ∧ ∀ b ∈ priorities, b.toNat ≤ 3
    (s.run = .running → exec (.setController r) s = .next (s.heard.owing 0x03 .notStopped .empty)) ∧
    (s.run = .stopped → ¬ok → exec (.setController r) s = .next (s.heard.owing 0x03 .badValue .empty)) ∧
    (s.run = .stopped → ok →
      ∃ p : Params, exec (.setController r) s = .next
          (State.owing { s.heard with params := p } 0x03 .accepted (.controller p)) ∧
        p.pairingWindow = min (max w.toNat 5) 60 ∧ p.repeatInterval = min re.toNat 10 ∧
        p.silenceTimeout = min (max (t1.toNat * 256 + t0.toNat) 10) 600 ∧
        p.policy = (if po = 0 then .deny else .dateless) ∧
        p.banks.toList.map CheckTime.ms = [b0, b1, b2, b3].map (fun b =>
          if b = 0 then none else some ([10, 20, 50, 100, 250].getD (b.toNat - 1) 0)) ∧
        p.shortThreshold = short ∧ p.normalTop = normal ∧ p.activeThreshold = active ∧ p.openThreshold = top ∧
        p.confirmCount = min (max cc.toNat 1) 4 ∧
        ∀ i : Fin 35, p.priorities[i].val = (priorities.getD i.val 0).toNat)) ∧
  ∀ p : Params, 5 ≤ p.pairingWindow → p.pairingWindow ≤ 60 → p.repeatInterval ≤ 10 →
    10 ≤ p.silenceTimeout → p.silenceTimeout ≤ 600 → 1 ≤ p.confirmCount → p.confirmCount ≤ 4 →
    1 ≤ p.shortThreshold → p.shortThreshold < p.normalTop → p.normalTop < p.activeThreshold →
    p.activeThreshold < p.openThreshold → p.openThreshold ≤ 1023 →
    p.bytes.length = 53 ∧ paramsOf p.bytes = some p

/-- The requests that read: each answers with the fields that its rule lists, taken from the state, and changes
nothing but what every frame changes (R15, R19, R24, R34, R105, R118, R119, R141, R154, R165, R175, R176). READ
STATUS counts the queue as the frame leaves it, with its LINK_UP. READ DOOR gives the seconds left of each timer
rounded up, and READ READERS the seconds since a presentation rounded down. That READ DOOR has a fault flag of its
own for each of the two inputs is the model's reading (notes/assumptions/31.md). The order of the payload's fields is
the model's deduction (notes/assumptions/5.md). A selector, slot, schedule, credential, start index, room, channel,
input or reader address out of range, and a range that runs backwards, are refused with BAD_VALUE. -/
def Obligations.ReadsChangeNothing : Prop :=
  ∀ (r : Req) (s : State), s.addressed r →
    let answers (c : Instr) (code : Byte) (data : ResponseData) : Prop :=
      exec c s = .next (s.heard.owing code .accepted data)
    let refuses (c : Instr) (code : Byte) : Prop := exec c s = .next (s.heard.owing code .badValue .empty)
    let doors := List.finRange 16
    ((∀ b : Byte, r.payload = [b] →
        (2 ≤ b.toNat → refuses (.readSettings r) 0x02) ∧ (64 ≤ b.toNat → refuses (.readSchedule r) 0x26) ∧
        (16 ≤ b.toNat → refuses (.readDoor r) 0x54)) ∧
      (∀ x y : Byte, r.payload = [x, y] →
        (2048 ≤ x.toNat * 256 + y.toNat → refuses (.readPermit r) 0x22) ∧
        (256 ≤ x.toNat * 256 + y.toNat → refuses (.readRevocations r) 0x34) ∧
        (16 ≤ x.toNat → refuses (.readRoom r) 0x41) ∧
        (31 < x.toNat ∨ 31 < y.toNat ∨ y.toNat < x.toNat → refuses (.readInputs r) 0x61) ∧
        (x.toNat = 0 ∨ y.toNat = 0 ∨ 31 < x.toNat ∨ 31 < y.toNat ∨ y.toNat < x.toNat →
          refuses (.readReaders r) 0x62)) ∧
      (r.payload = bytesOfCredential 0 → refuses (.checkCredential r) 0x33)) ∧
    (r.payload = [] → ∃ x : StatusReport, answers (.readStatus r) 0x01 (.status x) ∧
      (x.station = s.station ∧ x.run = s.run ∧ x.link = .online ∧ x.clock = s.clock.state) ∧
      (x.queueLength = s.heard.queue.length ∧ x.lost = s.heard.lost ∧
        (∀ y ∈ s.heard.queue, y.priority ≤ x.highestPriority) ∧
        (x.highestPriority = 0 ∨ ∃ y ∈ s.heard.queue, y.priority = x.highestPriority)) ∧
      (x.permitSlots = s.permits.length ∧ x.exactCount = s.exactList.length ∧ x.positionsSet = s.filter.length) ∧
      x.entries = ((List.finRange 16).map fun q => (s.room q).entries.length).sum ∧
      x.pairings = doors.countP (fun k => (s.pairing k).isSome) ∧
      x.readersOffline = (List.finRange 31).countP (fun a =>
        (s.assignment a).isSome && (s.reader a).state == .offline) ∧
      x.doorsInAlarm = doors.countP (fun k => (s.door k).state == .held || (s.door k).state == .forced) ∧
      x.roomsUnescorted = (List.finRange 16).countP fun q => (s.room q).supervision == .unescorted) ∧
    (r.payload = [0] → answers (.readSettings r) 0x02 (.controller s.params)) ∧
    (r.payload = [1] → answers (.readSettings r) 0x02
      (.rooms ((List.finRange 16).map fun q => (s.room q).settings))) ∧
    (r.payload = [] → answers (.readTime r) 0x12 (.timeReading
      ⟨s.clock, s.clock.weekday, s.clock.dayNumber, s.clock.minuteOfWeek, s.clock.absoluteMinute⟩)) ∧
    (∀ b1 b0 : Byte, r.payload = [b1, b0] → b1.toNat * 256 + b0.toNat ≤ 2047 →
      answers (.readPermit r) 0x22 (.permit (match s.slot (b1.toNat * 256 + b0.toNat) with
        | none => .free
        | some p => .held p.state p.permit.report p.count))) ∧
    (∀ b : Byte, r.payload = [b] → b.toNat ≤ 63 →
      answers (.readSchedule r) 0x26 (.schedule (s.schedule b.toNat))) ∧
    (r.payload = [] → answers (.readHolidays r) 0x2A (.holidays (s.holidays.map dateOfDay))) ∧
    (∀ c : Credential, r.payload = bytesOfCredential c → c ≠ 0 →
      answers (.checkCredential r) 0x33 (.credential ⟨s.revocation c, positionOf c,
        s.positionSet (positionOf c), s.exactList.length, s.filter.length⟩)) ∧
    (∀ b : Byte, r.payload = [0, b] →
      answers (.readRevocations r) 0x34 (.revocations s.exactList.length s.filter.length
        ((s.exactList.drop b.toNat).take 32))) ∧
    (∀ (q : RoomNo) (b : Byte), r.payload = [byteOf q.val, b] →
      answers (.readRoom r) 0x41 (.room ⟨q, (s.room q).supervision, (s.room q).entries.length,
        128 - s.totalEntries, ((s.room q).entries.drop b.toNat).take 8⟩)) ∧
    (∀ k : DoorNo, r.payload = [byteOf k.val] →
      let d := s.door k
      let position := s.input ⟨2 * k.val, by omega⟩
      let rex := s.input ⟨2 * k.val + 1, by omega⟩
      let left (timer : Option Nat) : Option Nat := timer.map fun deadline => (deadline - s.now + 999) / 1000
      answers (.readDoor r) 0x54 (.door
        { settings := d.settings, mode := d.mode, state := d.state, lock := d.lock, sounder := d.sounder
          release := left d.release, egress := left d.egress, allowance := left d.allowance
          provisional := d.provisional, positionLevel := position.level, rexLevel := rex.level
          positionFault := decide (position.fault ≠ .none), rexFault := decide (rex.fault ≠ .none) })) ∧
    (∀ i j : InputNo, r.payload = [byteOf i.val, byteOf j.val] → i ≤ j →
      answers (.readInputs r) 0x61 (.inputs ⟨s.params.confirmCount, s.params.shortThreshold,
        s.params.normalTop, s.params.activeThreshold, s.params.openThreshold, s.params.banks,
        ((List.finRange 32).filter fun x => decide (i ≤ x) && decide (x ≤ j)).map fun i =>
          let x := s.input i
          { mode := x.mode, polarity := x.polarity, bank := ⟨i.val / 8, by omega⟩, level := x.level
            fault := x.fault
            line := match x.mode with
              | .plain => .plain x.steady.isSome
              | .supervised => .supervised x.lastValue x.accepted x.candidate x.run }⟩)) ∧
    ∀ a b : ReaderNo, r.payload = [byteOf (a.val + 1), byteOf (b.val + 1)] → a ≤ b →
      answers (.readReaders r) 0x62 (.readers s.round s.params.repeatInterval
        (((List.finRange 31).filter fun x => decide (a ≤ x) && decide (x ≤ b)).map fun a =>
          let x := s.reader a
          { assignment := s.assignment a, state := x.state, misses := x.misses, tamper := x.tamper
            pending := x.pending, last := x.last.map fun l => (l.credential, (s.now - l.moment) / 1000) }))

/-- What the part shows without storing it. The RUN lamp is lit while the controller is RUNNING, the LINK lamp while
the link is ONLINE, the LOOP lamp while at least one assigned reader is OFFLINE, and the FAULT lamp while the queue
holds a record of priority 3. A sounder output sinks current exactly while the door's sounder is ON: so SILENCE stops
that of the door it names and no other. The link's silence timer running out puts the LINK lamp out (R138, R139, R160,
R170, R171, R175). -/
def Obligations.LampsAndSoundersShowTheState : Prop :=
  (∀ s : State,
    (s.lampRun = true ↔ s.run = .running) ∧ (s.lampLink = true ↔ s.link = .online) ∧
    (s.lampLoop = true ↔ ∃ a, (s.assignment a).isSome = true ∧ (s.reader a).state = .offline) ∧
    (s.lampFault = true ↔ ∃ x ∈ s.queue, x.priority = 3) ∧
    (∀ k, s.sounderOutput k = true ↔ (s.door k).sounder = .on) ∧
    ∀ (deadline : Nat), s.silence = some deadline → ∃ t : State, exec .silenceTimeout s = .next t ∧
      t.lampLink = false ∧ t.lampRun = s.lampRun ∧ t.lampLoop = s.lampLoop) ∧
  ∀ (r : Req) (s : State) (k : DoorNo), s.addressed r → r.payload = [byteOf k.val] → s.run = .running →
    ∃ t : State, exec (.silence r) s = .next t ∧ t.sounderOutput k = false ∧ t.lampLink = true ∧
      t.lampRun = true ∧ ∀ j, j ≠ k → t.sounderOutput j = s.sounderOutput j

/-! ## The whole part -/

/-- While the controller is RUNNING, no command but POWER_ON changes a controller parameter, a room's or a
door's settings, or an input's mode or polarity (R90, R121, R146, R174). -/
def Obligations.RunningKeepsTheSettings : Prop :=
  ∀ (c : Instr) (s t : State), s.run = .running → (∀ straps closed, c ≠ .powerOn straps closed) →
    exec c s = .next t → t.settings = s.settings
end

