-- ==== Sys2Proof/Laws/Channel.lean ====
section
/-! SUPPORT. Door channels: what a release request, a settling and going out of service make of a channel, in the
terms in which the statements name them. -/

namespace Sys2Proof.Machine

/-- A release request that finds a channel out of IDLE, and room in the list of a closed door, is taken (R127). -/
theorem DoorChannel.requestRelease_eq (d : DoorChannel) (now n : Nat) (hidle : d.state ≠ .idle)
    (hroom : d.state = .secure ∨ d.state = .released → d.provisional.length + n ≤ 8) :
    d.requestRelease now n =
      (if d.state = .secure ∨ d.state = .released then .taken else .takenOpen, d.releasing now) := by
  cases h : d.state <;>
    simp_all [DoorChannel.requestRelease, DoorChannel.releasing, DoorChannel.startRelease,
      DoorChannel.startAllowance, secondsAfter, Config.second, Config.referencesPerDoor]

/-- A release request that finds no room in the list of a closed door changes nothing (R127). -/
theorem DoorChannel.requestRelease_busy (d : DoorChannel) (now n : Nat)
    (hclosed : d.state = .secure ∨ d.state = .released) (hfull : 8 < d.provisional.length + n) :
    d.requestRelease now n = (.busy, d) := by
  rcases hclosed with h | h <;>
    simp [DoorChannel.requestRelease, h, Config.referencesPerDoor, Nat.not_le.mpr hfull]

/-- A channel that comes into service settles (R125). -/
theorem DoorChannel.settle_eq (d : DoorChannel) (level : Level) (now : Nat) :
    d.settle level now = d.settled level now := by
  cases level <;> cases hr : d.release <;> cases he : d.egress <;>
    simp [DoorChannel.settle, DoorChannel.settled, DoorChannel.startAllowance, DoorChannel.closedState,
      secondsAfter, Config.second, hr, he]

/-- STOP and reset park a channel with every timer stopped (R142). -/
theorem DoorChannel.stopAll_eq (d : DoorChannel) : d.stopAll = d.parked := rfl

/-- Going out of service parks a channel and leaves its egress timer (R124). -/
theorem DoorChannel.park_eq (d : DoorChannel) : d.park = { d.parked with egress := d.egress } := rfl

end Sys2Proof.Machine
end

