-- ==== Sys2Proof/Laws/State.lean ====
section
/-! SUPPORT. One lemma for each field of the state under each named update of it, all by definition. -/

namespace Sys2Proof.Machine

/-! ## setDoor -/

@[simp] theorem State.setDoor_now (s : State) (k : DoorNo) (d : DoorChannel) :
    (s.setDoor k d).now = s.now := rfl
@[simp] theorem State.setDoor_nextTick (s : State) (k : DoorNo) (d : DoorChannel) :
    (s.setDoor k d).nextTick = s.nextTick := rfl
@[simp] theorem State.setDoor_clock (s : State) (k : DoorNo) (d : DoorChannel) :
    (s.setDoor k d).clock = s.clock := rfl
@[simp] theorem State.setDoor_permits (s : State) (k : DoorNo) (d : DoorChannel) :
    (s.setDoor k d).permits = s.permits := rfl
@[simp] theorem State.setDoor_schedules (s : State) (k : DoorNo) (d : DoorChannel) :
    (s.setDoor k d).schedules = s.schedules := rfl
@[simp] theorem State.setDoor_holidays (s : State) (k : DoorNo) (d : DoorChannel) :
    (s.setDoor k d).holidays = s.holidays := rfl
@[simp] theorem State.setDoor_exactList (s : State) (k : DoorNo) (d : DoorChannel) :
    (s.setDoor k d).exactList = s.exactList := rfl
@[simp] theorem State.setDoor_filter (s : State) (k : DoorNo) (d : DoorChannel) :
    (s.setDoor k d).filter = s.filter := rfl
@[simp] theorem State.setDoor_pairings (s : State) (k : DoorNo) (d : DoorChannel) :
    (s.setDoor k d).pairings = s.pairings := rfl
@[simp] theorem State.setDoor_rooms (s : State) (k : DoorNo) (d : DoorChannel) :
    (s.setDoor k d).rooms = s.rooms := rfl
@[simp] theorem State.setDoor_doors (s : State) (k : DoorNo) (d : DoorChannel) :
    (s.setDoor k d).doors = s.doors.set k d := rfl
@[simp] theorem State.setDoor_inputs (s : State) (k : DoorNo) (d : DoorChannel) :
    (s.setDoor k d).inputs = s.inputs := rfl
@[simp] theorem State.setDoor_scanDue (s : State) (k : DoorNo) (d : DoorChannel) :
    (s.setDoor k d).scanDue = s.scanDue := rfl
@[simp] theorem State.setDoor_readers (s : State) (k : DoorNo) (d : DoorChannel) :
    (s.setDoor k d).readers = s.readers := rfl
@[simp] theorem State.setDoor_round (s : State) (k : DoorNo) (d : DoorChannel) :
    (s.setDoor k d).round = s.round := rfl
@[simp] theorem State.setDoor_lastPolled (s : State) (k : DoorNo) (d : DoorChannel) :
    (s.setDoor k d).lastPolled = s.lastPolled := rfl
@[simp] theorem State.setDoor_roundReaders (s : State) (k : DoorNo) (d : DoorChannel) :
    (s.setDoor k d).roundReaders = s.roundReaders := rfl
@[simp] theorem State.setDoor_loop (s : State) (k : DoorNo) (d : DoorChannel) :
    (s.setDoor k d).loop = s.loop := rfl
@[simp] theorem State.setDoor_queue (s : State) (k : DoorNo) (d : DoorChannel) :
    (s.setDoor k d).queue = s.queue := rfl
@[simp] theorem State.setDoor_nextSequence (s : State) (k : DoorNo) (d : DoorChannel) :
    (s.setDoor k d).nextSequence = s.nextSequence := rfl
@[simp] theorem State.setDoor_lost (s : State) (k : DoorNo) (d : DoorChannel) :
    (s.setDoor k d).lost = s.lost := rfl
@[simp] theorem State.setDoor_station (s : State) (k : DoorNo) (d : DoorChannel) :
    (s.setDoor k d).station = s.station := rfl
@[simp] theorem State.setDoor_link (s : State) (k : DoorNo) (d : DoorChannel) :
    (s.setDoor k d).link = s.link := rfl
@[simp] theorem State.setDoor_silence (s : State) (k : DoorNo) (d : DoorChannel) :
    (s.setDoor k d).silence = s.silence := rfl
@[simp] theorem State.setDoor_window (s : State) (k : DoorNo) (d : DoorChannel) :
    (s.setDoor k d).window = s.window := rfl
@[simp] theorem State.setDoor_run (s : State) (k : DoorNo) (d : DoorChannel) :
    (s.setDoor k d).run = s.run := rfl
@[simp] theorem State.setDoor_sending (s : State) (k : DoorNo) (d : DoorChannel) :
    (s.setDoor k d).sending = s.sending := rfl
@[simp] theorem State.setDoor_responses (s : State) (k : DoorNo) (d : DoorChannel) :
    (s.setDoor k d).responses = s.responses := rfl
@[simp] theorem State.setDoor_params (s : State) (k : DoorNo) (d : DoorChannel) :
    (s.setDoor k d).params = s.params := rfl
@[simp] theorem State.setDoor_pinHeld (s : State) (k : DoorNo) (d : DoorChannel) :
    (s.setDoor k d).pinHeld = s.pinHeld := rfl
@[simp] theorem State.setDoor_pending (s : State) (k : DoorNo) (d : DoorChannel) :
    (s.setDoor k d).pending = s.pending := rfl

/-! ## modifyDoor -/

@[simp] theorem State.modifyDoor_now (s : State) (k : DoorNo) (f : DoorChannel → DoorChannel) :
    (s.modifyDoor k f).now = s.now := rfl
@[simp] theorem State.modifyDoor_nextTick (s : State) (k : DoorNo) (f : DoorChannel → DoorChannel) :
    (s.modifyDoor k f).nextTick = s.nextTick := rfl
@[simp] theorem State.modifyDoor_clock (s : State) (k : DoorNo) (f : DoorChannel → DoorChannel) :
    (s.modifyDoor k f).clock = s.clock := rfl
@[simp] theorem State.modifyDoor_permits (s : State) (k : DoorNo) (f : DoorChannel → DoorChannel) :
    (s.modifyDoor k f).permits = s.permits := rfl
@[simp] theorem State.modifyDoor_schedules (s : State) (k : DoorNo) (f : DoorChannel → DoorChannel) :
    (s.modifyDoor k f).schedules = s.schedules := rfl
@[simp] theorem State.modifyDoor_holidays (s : State) (k : DoorNo) (f : DoorChannel → DoorChannel) :
    (s.modifyDoor k f).holidays = s.holidays := rfl
@[simp] theorem State.modifyDoor_exactList (s : State) (k : DoorNo) (f : DoorChannel → DoorChannel) :
    (s.modifyDoor k f).exactList = s.exactList := rfl
@[simp] theorem State.modifyDoor_filter (s : State) (k : DoorNo) (f : DoorChannel → DoorChannel) :
    (s.modifyDoor k f).filter = s.filter := rfl
@[simp] theorem State.modifyDoor_pairings (s : State) (k : DoorNo) (f : DoorChannel → DoorChannel) :
    (s.modifyDoor k f).pairings = s.pairings := rfl
@[simp] theorem State.modifyDoor_rooms (s : State) (k : DoorNo) (f : DoorChannel → DoorChannel) :
    (s.modifyDoor k f).rooms = s.rooms := rfl
@[simp] theorem State.modifyDoor_doors (s : State) (k : DoorNo) (f : DoorChannel → DoorChannel) :
    (s.modifyDoor k f).doors = s.doors.set k (f (s.door k)) := rfl
@[simp] theorem State.modifyDoor_inputs (s : State) (k : DoorNo) (f : DoorChannel → DoorChannel) :
    (s.modifyDoor k f).inputs = s.inputs := rfl
@[simp] theorem State.modifyDoor_scanDue (s : State) (k : DoorNo) (f : DoorChannel → DoorChannel) :
    (s.modifyDoor k f).scanDue = s.scanDue := rfl
@[simp] theorem State.modifyDoor_readers (s : State) (k : DoorNo) (f : DoorChannel → DoorChannel) :
    (s.modifyDoor k f).readers = s.readers := rfl
@[simp] theorem State.modifyDoor_round (s : State) (k : DoorNo) (f : DoorChannel → DoorChannel) :
    (s.modifyDoor k f).round = s.round := rfl
@[simp] theorem State.modifyDoor_lastPolled (s : State) (k : DoorNo) (f : DoorChannel → DoorChannel) :
    (s.modifyDoor k f).lastPolled = s.lastPolled := rfl
@[simp] theorem State.modifyDoor_roundReaders (s : State) (k : DoorNo) (f : DoorChannel → DoorChannel) :
    (s.modifyDoor k f).roundReaders = s.roundReaders := rfl
@[simp] theorem State.modifyDoor_loop (s : State) (k : DoorNo) (f : DoorChannel → DoorChannel) :
    (s.modifyDoor k f).loop = s.loop := rfl
@[simp] theorem State.modifyDoor_queue (s : State) (k : DoorNo) (f : DoorChannel → DoorChannel) :
    (s.modifyDoor k f).queue = s.queue := rfl
@[simp] theorem State.modifyDoor_nextSequence (s : State) (k : DoorNo) (f : DoorChannel → DoorChannel) :
    (s.modifyDoor k f).nextSequence = s.nextSequence := rfl
@[simp] theorem State.modifyDoor_lost (s : State) (k : DoorNo) (f : DoorChannel → DoorChannel) :
    (s.modifyDoor k f).lost = s.lost := rfl
@[simp] theorem State.modifyDoor_station (s : State) (k : DoorNo) (f : DoorChannel → DoorChannel) :
    (s.modifyDoor k f).station = s.station := rfl
@[simp] theorem State.modifyDoor_link (s : State) (k : DoorNo) (f : DoorChannel → DoorChannel) :
    (s.modifyDoor k f).link = s.link := rfl
@[simp] theorem State.modifyDoor_silence (s : State) (k : DoorNo) (f : DoorChannel → DoorChannel) :
    (s.modifyDoor k f).silence = s.silence := rfl
@[simp] theorem State.modifyDoor_window (s : State) (k : DoorNo) (f : DoorChannel → DoorChannel) :
    (s.modifyDoor k f).window = s.window := rfl
@[simp] theorem State.modifyDoor_run (s : State) (k : DoorNo) (f : DoorChannel → DoorChannel) :
    (s.modifyDoor k f).run = s.run := rfl
@[simp] theorem State.modifyDoor_sending (s : State) (k : DoorNo) (f : DoorChannel → DoorChannel) :
    (s.modifyDoor k f).sending = s.sending := rfl
@[simp] theorem State.modifyDoor_responses (s : State) (k : DoorNo) (f : DoorChannel → DoorChannel) :
    (s.modifyDoor k f).responses = s.responses := rfl
@[simp] theorem State.modifyDoor_params (s : State) (k : DoorNo) (f : DoorChannel → DoorChannel) :
    (s.modifyDoor k f).params = s.params := rfl
@[simp] theorem State.modifyDoor_pinHeld (s : State) (k : DoorNo) (f : DoorChannel → DoorChannel) :
    (s.modifyDoor k f).pinHeld = s.pinHeld := rfl
@[simp] theorem State.modifyDoor_pending (s : State) (k : DoorNo) (f : DoorChannel → DoorChannel) :
    (s.modifyDoor k f).pending = s.pending := rfl

/-! ## setRoom -/

@[simp] theorem State.setRoom_now (s : State) (r : RoomNo) (x : Room) :
    (s.setRoom r x).now = s.now := rfl
@[simp] theorem State.setRoom_nextTick (s : State) (r : RoomNo) (x : Room) :
    (s.setRoom r x).nextTick = s.nextTick := rfl
@[simp] theorem State.setRoom_clock (s : State) (r : RoomNo) (x : Room) :
    (s.setRoom r x).clock = s.clock := rfl
@[simp] theorem State.setRoom_permits (s : State) (r : RoomNo) (x : Room) :
    (s.setRoom r x).permits = s.permits := rfl
@[simp] theorem State.setRoom_schedules (s : State) (r : RoomNo) (x : Room) :
    (s.setRoom r x).schedules = s.schedules := rfl
@[simp] theorem State.setRoom_holidays (s : State) (r : RoomNo) (x : Room) :
    (s.setRoom r x).holidays = s.holidays := rfl
@[simp] theorem State.setRoom_exactList (s : State) (r : RoomNo) (x : Room) :
    (s.setRoom r x).exactList = s.exactList := rfl
@[simp] theorem State.setRoom_filter (s : State) (r : RoomNo) (x : Room) :
    (s.setRoom r x).filter = s.filter := rfl
@[simp] theorem State.setRoom_pairings (s : State) (r : RoomNo) (x : Room) :
    (s.setRoom r x).pairings = s.pairings := rfl
@[simp] theorem State.setRoom_rooms (s : State) (r : RoomNo) (x : Room) :
    (s.setRoom r x).rooms = s.rooms.set r x := rfl
@[simp] theorem State.setRoom_doors (s : State) (r : RoomNo) (x : Room) :
    (s.setRoom r x).doors = s.doors := rfl
@[simp] theorem State.setRoom_inputs (s : State) (r : RoomNo) (x : Room) :
    (s.setRoom r x).inputs = s.inputs := rfl
@[simp] theorem State.setRoom_scanDue (s : State) (r : RoomNo) (x : Room) :
    (s.setRoom r x).scanDue = s.scanDue := rfl
@[simp] theorem State.setRoom_readers (s : State) (r : RoomNo) (x : Room) :
    (s.setRoom r x).readers = s.readers := rfl
@[simp] theorem State.setRoom_round (s : State) (r : RoomNo) (x : Room) :
    (s.setRoom r x).round = s.round := rfl
@[simp] theorem State.setRoom_lastPolled (s : State) (r : RoomNo) (x : Room) :
    (s.setRoom r x).lastPolled = s.lastPolled := rfl
@[simp] theorem State.setRoom_roundReaders (s : State) (r : RoomNo) (x : Room) :
    (s.setRoom r x).roundReaders = s.roundReaders := rfl
@[simp] theorem State.setRoom_loop (s : State) (r : RoomNo) (x : Room) :
    (s.setRoom r x).loop = s.loop := rfl
@[simp] theorem State.setRoom_queue (s : State) (r : RoomNo) (x : Room) :
    (s.setRoom r x).queue = s.queue := rfl
@[simp] theorem State.setRoom_nextSequence (s : State) (r : RoomNo) (x : Room) :
    (s.setRoom r x).nextSequence = s.nextSequence := rfl
@[simp] theorem State.setRoom_lost (s : State) (r : RoomNo) (x : Room) :
    (s.setRoom r x).lost = s.lost := rfl
@[simp] theorem State.setRoom_station (s : State) (r : RoomNo) (x : Room) :
    (s.setRoom r x).station = s.station := rfl
@[simp] theorem State.setRoom_link (s : State) (r : RoomNo) (x : Room) :
    (s.setRoom r x).link = s.link := rfl
@[simp] theorem State.setRoom_silence (s : State) (r : RoomNo) (x : Room) :
    (s.setRoom r x).silence = s.silence := rfl
@[simp] theorem State.setRoom_window (s : State) (r : RoomNo) (x : Room) :
    (s.setRoom r x).window = s.window := rfl
@[simp] theorem State.setRoom_run (s : State) (r : RoomNo) (x : Room) :
    (s.setRoom r x).run = s.run := rfl
@[simp] theorem State.setRoom_sending (s : State) (r : RoomNo) (x : Room) :
    (s.setRoom r x).sending = s.sending := rfl
@[simp] theorem State.setRoom_responses (s : State) (r : RoomNo) (x : Room) :
    (s.setRoom r x).responses = s.responses := rfl
@[simp] theorem State.setRoom_params (s : State) (r : RoomNo) (x : Room) :
    (s.setRoom r x).params = s.params := rfl
@[simp] theorem State.setRoom_pinHeld (s : State) (r : RoomNo) (x : Room) :
    (s.setRoom r x).pinHeld = s.pinHeld := rfl
@[simp] theorem State.setRoom_pending (s : State) (r : RoomNo) (x : Room) :
    (s.setRoom r x).pending = s.pending := rfl

/-! ## modifyRoom -/

@[simp] theorem State.modifyRoom_now (s : State) (r : RoomNo) (f : Room → Room) :
    (s.modifyRoom r f).now = s.now := rfl
@[simp] theorem State.modifyRoom_nextTick (s : State) (r : RoomNo) (f : Room → Room) :
    (s.modifyRoom r f).nextTick = s.nextTick := rfl
@[simp] theorem State.modifyRoom_clock (s : State) (r : RoomNo) (f : Room → Room) :
    (s.modifyRoom r f).clock = s.clock := rfl
@[simp] theorem State.modifyRoom_permits (s : State) (r : RoomNo) (f : Room → Room) :
    (s.modifyRoom r f).permits = s.permits := rfl
@[simp] theorem State.modifyRoom_schedules (s : State) (r : RoomNo) (f : Room → Room) :
    (s.modifyRoom r f).schedules = s.schedules := rfl
@[simp] theorem State.modifyRoom_holidays (s : State) (r : RoomNo) (f : Room → Room) :
    (s.modifyRoom r f).holidays = s.holidays := rfl
@[simp] theorem State.modifyRoom_exactList (s : State) (r : RoomNo) (f : Room → Room) :
    (s.modifyRoom r f).exactList = s.exactList := rfl
@[simp] theorem State.modifyRoom_filter (s : State) (r : RoomNo) (f : Room → Room) :
    (s.modifyRoom r f).filter = s.filter := rfl
@[simp] theorem State.modifyRoom_pairings (s : State) (r : RoomNo) (f : Room → Room) :
    (s.modifyRoom r f).pairings = s.pairings := rfl
@[simp] theorem State.modifyRoom_rooms (s : State) (r : RoomNo) (f : Room → Room) :
    (s.modifyRoom r f).rooms = s.rooms.set r (f (s.room r)) := rfl
@[simp] theorem State.modifyRoom_doors (s : State) (r : RoomNo) (f : Room → Room) :
    (s.modifyRoom r f).doors = s.doors := rfl
@[simp] theorem State.modifyRoom_inputs (s : State) (r : RoomNo) (f : Room → Room) :
    (s.modifyRoom r f).inputs = s.inputs := rfl
@[simp] theorem State.modifyRoom_scanDue (s : State) (r : RoomNo) (f : Room → Room) :
    (s.modifyRoom r f).scanDue = s.scanDue := rfl
@[simp] theorem State.modifyRoom_readers (s : State) (r : RoomNo) (f : Room → Room) :
    (s.modifyRoom r f).readers = s.readers := rfl
@[simp] theorem State.modifyRoom_round (s : State) (r : RoomNo) (f : Room → Room) :
    (s.modifyRoom r f).round = s.round := rfl
@[simp] theorem State.modifyRoom_lastPolled (s : State) (r : RoomNo) (f : Room → Room) :
    (s.modifyRoom r f).lastPolled = s.lastPolled := rfl
@[simp] theorem State.modifyRoom_roundReaders (s : State) (r : RoomNo) (f : Room → Room) :
    (s.modifyRoom r f).roundReaders = s.roundReaders := rfl
@[simp] theorem State.modifyRoom_loop (s : State) (r : RoomNo) (f : Room → Room) :
    (s.modifyRoom r f).loop = s.loop := rfl
@[simp] theorem State.modifyRoom_queue (s : State) (r : RoomNo) (f : Room → Room) :
    (s.modifyRoom r f).queue = s.queue := rfl
@[simp] theorem State.modifyRoom_nextSequence (s : State) (r : RoomNo) (f : Room → Room) :
    (s.modifyRoom r f).nextSequence = s.nextSequence := rfl
@[simp] theorem State.modifyRoom_lost (s : State) (r : RoomNo) (f : Room → Room) :
    (s.modifyRoom r f).lost = s.lost := rfl
@[simp] theorem State.modifyRoom_station (s : State) (r : RoomNo) (f : Room → Room) :
    (s.modifyRoom r f).station = s.station := rfl
@[simp] theorem State.modifyRoom_link (s : State) (r : RoomNo) (f : Room → Room) :
    (s.modifyRoom r f).link = s.link := rfl
@[simp] theorem State.modifyRoom_silence (s : State) (r : RoomNo) (f : Room → Room) :
    (s.modifyRoom r f).silence = s.silence := rfl
@[simp] theorem State.modifyRoom_window (s : State) (r : RoomNo) (f : Room → Room) :
    (s.modifyRoom r f).window = s.window := rfl
@[simp] theorem State.modifyRoom_run (s : State) (r : RoomNo) (f : Room → Room) :
    (s.modifyRoom r f).run = s.run := rfl
@[simp] theorem State.modifyRoom_sending (s : State) (r : RoomNo) (f : Room → Room) :
    (s.modifyRoom r f).sending = s.sending := rfl
@[simp] theorem State.modifyRoom_responses (s : State) (r : RoomNo) (f : Room → Room) :
    (s.modifyRoom r f).responses = s.responses := rfl
@[simp] theorem State.modifyRoom_params (s : State) (r : RoomNo) (f : Room → Room) :
    (s.modifyRoom r f).params = s.params := rfl
@[simp] theorem State.modifyRoom_pinHeld (s : State) (r : RoomNo) (f : Room → Room) :
    (s.modifyRoom r f).pinHeld = s.pinHeld := rfl
@[simp] theorem State.modifyRoom_pending (s : State) (r : RoomNo) (f : Room → Room) :
    (s.modifyRoom r f).pending = s.pending := rfl

/-! ## setInput -/

@[simp] theorem State.setInput_now (s : State) (i : InputNo) (x : InputLine) :
    (s.setInput i x).now = s.now := rfl
@[simp] theorem State.setInput_nextTick (s : State) (i : InputNo) (x : InputLine) :
    (s.setInput i x).nextTick = s.nextTick := rfl
@[simp] theorem State.setInput_clock (s : State) (i : InputNo) (x : InputLine) :
    (s.setInput i x).clock = s.clock := rfl
@[simp] theorem State.setInput_permits (s : State) (i : InputNo) (x : InputLine) :
    (s.setInput i x).permits = s.permits := rfl
@[simp] theorem State.setInput_schedules (s : State) (i : InputNo) (x : InputLine) :
    (s.setInput i x).schedules = s.schedules := rfl
@[simp] theorem State.setInput_holidays (s : State) (i : InputNo) (x : InputLine) :
    (s.setInput i x).holidays = s.holidays := rfl
@[simp] theorem State.setInput_exactList (s : State) (i : InputNo) (x : InputLine) :
    (s.setInput i x).exactList = s.exactList := rfl
@[simp] theorem State.setInput_filter (s : State) (i : InputNo) (x : InputLine) :
    (s.setInput i x).filter = s.filter := rfl
@[simp] theorem State.setInput_pairings (s : State) (i : InputNo) (x : InputLine) :
    (s.setInput i x).pairings = s.pairings := rfl
@[simp] theorem State.setInput_rooms (s : State) (i : InputNo) (x : InputLine) :
    (s.setInput i x).rooms = s.rooms := rfl
@[simp] theorem State.setInput_doors (s : State) (i : InputNo) (x : InputLine) :
    (s.setInput i x).doors = s.doors := rfl
@[simp] theorem State.setInput_inputs (s : State) (i : InputNo) (x : InputLine) :
    (s.setInput i x).inputs = s.inputs.set i x := rfl
@[simp] theorem State.setInput_scanDue (s : State) (i : InputNo) (x : InputLine) :
    (s.setInput i x).scanDue = s.scanDue := rfl
@[simp] theorem State.setInput_readers (s : State) (i : InputNo) (x : InputLine) :
    (s.setInput i x).readers = s.readers := rfl
@[simp] theorem State.setInput_round (s : State) (i : InputNo) (x : InputLine) :
    (s.setInput i x).round = s.round := rfl
@[simp] theorem State.setInput_lastPolled (s : State) (i : InputNo) (x : InputLine) :
    (s.setInput i x).lastPolled = s.lastPolled := rfl
@[simp] theorem State.setInput_roundReaders (s : State) (i : InputNo) (x : InputLine) :
    (s.setInput i x).roundReaders = s.roundReaders := rfl
@[simp] theorem State.setInput_loop (s : State) (i : InputNo) (x : InputLine) :
    (s.setInput i x).loop = s.loop := rfl
@[simp] theorem State.setInput_queue (s : State) (i : InputNo) (x : InputLine) :
    (s.setInput i x).queue = s.queue := rfl
@[simp] theorem State.setInput_nextSequence (s : State) (i : InputNo) (x : InputLine) :
    (s.setInput i x).nextSequence = s.nextSequence := rfl
@[simp] theorem State.setInput_lost (s : State) (i : InputNo) (x : InputLine) :
    (s.setInput i x).lost = s.lost := rfl
@[simp] theorem State.setInput_station (s : State) (i : InputNo) (x : InputLine) :
    (s.setInput i x).station = s.station := rfl
@[simp] theorem State.setInput_link (s : State) (i : InputNo) (x : InputLine) :
    (s.setInput i x).link = s.link := rfl
@[simp] theorem State.setInput_silence (s : State) (i : InputNo) (x : InputLine) :
    (s.setInput i x).silence = s.silence := rfl
@[simp] theorem State.setInput_window (s : State) (i : InputNo) (x : InputLine) :
    (s.setInput i x).window = s.window := rfl
@[simp] theorem State.setInput_run (s : State) (i : InputNo) (x : InputLine) :
    (s.setInput i x).run = s.run := rfl
@[simp] theorem State.setInput_sending (s : State) (i : InputNo) (x : InputLine) :
    (s.setInput i x).sending = s.sending := rfl
@[simp] theorem State.setInput_responses (s : State) (i : InputNo) (x : InputLine) :
    (s.setInput i x).responses = s.responses := rfl
@[simp] theorem State.setInput_params (s : State) (i : InputNo) (x : InputLine) :
    (s.setInput i x).params = s.params := rfl
@[simp] theorem State.setInput_pinHeld (s : State) (i : InputNo) (x : InputLine) :
    (s.setInput i x).pinHeld = s.pinHeld := rfl
@[simp] theorem State.setInput_pending (s : State) (i : InputNo) (x : InputLine) :
    (s.setInput i x).pending = s.pending := rfl

/-! ## modifyInput -/

@[simp] theorem State.modifyInput_now (s : State) (i : InputNo) (f : InputLine → InputLine) :
    (s.modifyInput i f).now = s.now := rfl
@[simp] theorem State.modifyInput_nextTick (s : State) (i : InputNo) (f : InputLine → InputLine) :
    (s.modifyInput i f).nextTick = s.nextTick := rfl
@[simp] theorem State.modifyInput_clock (s : State) (i : InputNo) (f : InputLine → InputLine) :
    (s.modifyInput i f).clock = s.clock := rfl
@[simp] theorem State.modifyInput_permits (s : State) (i : InputNo) (f : InputLine → InputLine) :
    (s.modifyInput i f).permits = s.permits := rfl
@[simp] theorem State.modifyInput_schedules (s : State) (i : InputNo) (f : InputLine → InputLine) :
    (s.modifyInput i f).schedules = s.schedules := rfl
@[simp] theorem State.modifyInput_holidays (s : State) (i : InputNo) (f : InputLine → InputLine) :
    (s.modifyInput i f).holidays = s.holidays := rfl
@[simp] theorem State.modifyInput_exactList (s : State) (i : InputNo) (f : InputLine → InputLine) :
    (s.modifyInput i f).exactList = s.exactList := rfl
@[simp] theorem State.modifyInput_filter (s : State) (i : InputNo) (f : InputLine → InputLine) :
    (s.modifyInput i f).filter = s.filter := rfl
@[simp] theorem State.modifyInput_pairings (s : State) (i : InputNo) (f : InputLine → InputLine) :
    (s.modifyInput i f).pairings = s.pairings := rfl
@[simp] theorem State.modifyInput_rooms (s : State) (i : InputNo) (f : InputLine → InputLine) :
    (s.modifyInput i f).rooms = s.rooms := rfl
@[simp] theorem State.modifyInput_doors (s : State) (i : InputNo) (f : InputLine → InputLine) :
    (s.modifyInput i f).doors = s.doors := rfl
@[simp] theorem State.modifyInput_inputs (s : State) (i : InputNo) (f : InputLine → InputLine) :
    (s.modifyInput i f).inputs = s.inputs.set i (f (s.input i)) := rfl
@[simp] theorem State.modifyInput_scanDue (s : State) (i : InputNo) (f : InputLine → InputLine) :
    (s.modifyInput i f).scanDue = s.scanDue := rfl
@[simp] theorem State.modifyInput_readers (s : State) (i : InputNo) (f : InputLine → InputLine) :
    (s.modifyInput i f).readers = s.readers := rfl
@[simp] theorem State.modifyInput_round (s : State) (i : InputNo) (f : InputLine → InputLine) :
    (s.modifyInput i f).round = s.round := rfl
@[simp] theorem State.modifyInput_lastPolled (s : State) (i : InputNo) (f : InputLine → InputLine) :
    (s.modifyInput i f).lastPolled = s.lastPolled := rfl
@[simp] theorem State.modifyInput_roundReaders (s : State) (i : InputNo) (f : InputLine → InputLine) :
    (s.modifyInput i f).roundReaders = s.roundReaders := rfl
@[simp] theorem State.modifyInput_loop (s : State) (i : InputNo) (f : InputLine → InputLine) :
    (s.modifyInput i f).loop = s.loop := rfl
@[simp] theorem State.modifyInput_queue (s : State) (i : InputNo) (f : InputLine → InputLine) :
    (s.modifyInput i f).queue = s.queue := rfl
@[simp] theorem State.modifyInput_nextSequence (s : State) (i : InputNo) (f : InputLine → InputLine) :
    (s.modifyInput i f).nextSequence = s.nextSequence := rfl
@[simp] theorem State.modifyInput_lost (s : State) (i : InputNo) (f : InputLine → InputLine) :
    (s.modifyInput i f).lost = s.lost := rfl
@[simp] theorem State.modifyInput_station (s : State) (i : InputNo) (f : InputLine → InputLine) :
    (s.modifyInput i f).station = s.station := rfl
@[simp] theorem State.modifyInput_link (s : State) (i : InputNo) (f : InputLine → InputLine) :
    (s.modifyInput i f).link = s.link := rfl
@[simp] theorem State.modifyInput_silence (s : State) (i : InputNo) (f : InputLine → InputLine) :
    (s.modifyInput i f).silence = s.silence := rfl
@[simp] theorem State.modifyInput_window (s : State) (i : InputNo) (f : InputLine → InputLine) :
    (s.modifyInput i f).window = s.window := rfl
@[simp] theorem State.modifyInput_run (s : State) (i : InputNo) (f : InputLine → InputLine) :
    (s.modifyInput i f).run = s.run := rfl
@[simp] theorem State.modifyInput_sending (s : State) (i : InputNo) (f : InputLine → InputLine) :
    (s.modifyInput i f).sending = s.sending := rfl
@[simp] theorem State.modifyInput_responses (s : State) (i : InputNo) (f : InputLine → InputLine) :
    (s.modifyInput i f).responses = s.responses := rfl
@[simp] theorem State.modifyInput_params (s : State) (i : InputNo) (f : InputLine → InputLine) :
    (s.modifyInput i f).params = s.params := rfl
@[simp] theorem State.modifyInput_pinHeld (s : State) (i : InputNo) (f : InputLine → InputLine) :
    (s.modifyInput i f).pinHeld = s.pinHeld := rfl
@[simp] theorem State.modifyInput_pending (s : State) (i : InputNo) (f : InputLine → InputLine) :
    (s.modifyInput i f).pending = s.pending := rfl

/-! ## setReader -/

@[simp] theorem State.setReader_now (s : State) (a : ReaderNo) (x : Reader) :
    (s.setReader a x).now = s.now := rfl
@[simp] theorem State.setReader_nextTick (s : State) (a : ReaderNo) (x : Reader) :
    (s.setReader a x).nextTick = s.nextTick := rfl
@[simp] theorem State.setReader_clock (s : State) (a : ReaderNo) (x : Reader) :
    (s.setReader a x).clock = s.clock := rfl
@[simp] theorem State.setReader_permits (s : State) (a : ReaderNo) (x : Reader) :
    (s.setReader a x).permits = s.permits := rfl
@[simp] theorem State.setReader_schedules (s : State) (a : ReaderNo) (x : Reader) :
    (s.setReader a x).schedules = s.schedules := rfl
@[simp] theorem State.setReader_holidays (s : State) (a : ReaderNo) (x : Reader) :
    (s.setReader a x).holidays = s.holidays := rfl
@[simp] theorem State.setReader_exactList (s : State) (a : ReaderNo) (x : Reader) :
    (s.setReader a x).exactList = s.exactList := rfl
@[simp] theorem State.setReader_filter (s : State) (a : ReaderNo) (x : Reader) :
    (s.setReader a x).filter = s.filter := rfl
@[simp] theorem State.setReader_pairings (s : State) (a : ReaderNo) (x : Reader) :
    (s.setReader a x).pairings = s.pairings := rfl
@[simp] theorem State.setReader_rooms (s : State) (a : ReaderNo) (x : Reader) :
    (s.setReader a x).rooms = s.rooms := rfl
@[simp] theorem State.setReader_doors (s : State) (a : ReaderNo) (x : Reader) :
    (s.setReader a x).doors = s.doors := rfl
@[simp] theorem State.setReader_inputs (s : State) (a : ReaderNo) (x : Reader) :
    (s.setReader a x).inputs = s.inputs := rfl
@[simp] theorem State.setReader_scanDue (s : State) (a : ReaderNo) (x : Reader) :
    (s.setReader a x).scanDue = s.scanDue := rfl
@[simp] theorem State.setReader_readers (s : State) (a : ReaderNo) (x : Reader) :
    (s.setReader a x).readers = s.readers.set a x := rfl
@[simp] theorem State.setReader_round (s : State) (a : ReaderNo) (x : Reader) :
    (s.setReader a x).round = s.round := rfl
@[simp] theorem State.setReader_lastPolled (s : State) (a : ReaderNo) (x : Reader) :
    (s.setReader a x).lastPolled = s.lastPolled := rfl
@[simp] theorem State.setReader_roundReaders (s : State) (a : ReaderNo) (x : Reader) :
    (s.setReader a x).roundReaders = s.roundReaders := rfl
@[simp] theorem State.setReader_loop (s : State) (a : ReaderNo) (x : Reader) :
    (s.setReader a x).loop = s.loop := rfl
@[simp] theorem State.setReader_queue (s : State) (a : ReaderNo) (x : Reader) :
    (s.setReader a x).queue = s.queue := rfl
@[simp] theorem State.setReader_nextSequence (s : State) (a : ReaderNo) (x : Reader) :
    (s.setReader a x).nextSequence = s.nextSequence := rfl
@[simp] theorem State.setReader_lost (s : State) (a : ReaderNo) (x : Reader) :
    (s.setReader a x).lost = s.lost := rfl
@[simp] theorem State.setReader_station (s : State) (a : ReaderNo) (x : Reader) :
    (s.setReader a x).station = s.station := rfl
@[simp] theorem State.setReader_link (s : State) (a : ReaderNo) (x : Reader) :
    (s.setReader a x).link = s.link := rfl
@[simp] theorem State.setReader_silence (s : State) (a : ReaderNo) (x : Reader) :
    (s.setReader a x).silence = s.silence := rfl
@[simp] theorem State.setReader_window (s : State) (a : ReaderNo) (x : Reader) :
    (s.setReader a x).window = s.window := rfl
@[simp] theorem State.setReader_run (s : State) (a : ReaderNo) (x : Reader) :
    (s.setReader a x).run = s.run := rfl
@[simp] theorem State.setReader_sending (s : State) (a : ReaderNo) (x : Reader) :
    (s.setReader a x).sending = s.sending := rfl
@[simp] theorem State.setReader_responses (s : State) (a : ReaderNo) (x : Reader) :
    (s.setReader a x).responses = s.responses := rfl
@[simp] theorem State.setReader_params (s : State) (a : ReaderNo) (x : Reader) :
    (s.setReader a x).params = s.params := rfl
@[simp] theorem State.setReader_pinHeld (s : State) (a : ReaderNo) (x : Reader) :
    (s.setReader a x).pinHeld = s.pinHeld := rfl
@[simp] theorem State.setReader_pending (s : State) (a : ReaderNo) (x : Reader) :
    (s.setReader a x).pending = s.pending := rfl

/-! ## modifyReader -/

@[simp] theorem State.modifyReader_now (s : State) (a : ReaderNo) (f : Reader → Reader) :
    (s.modifyReader a f).now = s.now := rfl
@[simp] theorem State.modifyReader_nextTick (s : State) (a : ReaderNo) (f : Reader → Reader) :
    (s.modifyReader a f).nextTick = s.nextTick := rfl
@[simp] theorem State.modifyReader_clock (s : State) (a : ReaderNo) (f : Reader → Reader) :
    (s.modifyReader a f).clock = s.clock := rfl
@[simp] theorem State.modifyReader_permits (s : State) (a : ReaderNo) (f : Reader → Reader) :
    (s.modifyReader a f).permits = s.permits := rfl
@[simp] theorem State.modifyReader_schedules (s : State) (a : ReaderNo) (f : Reader → Reader) :
    (s.modifyReader a f).schedules = s.schedules := rfl
@[simp] theorem State.modifyReader_holidays (s : State) (a : ReaderNo) (f : Reader → Reader) :
    (s.modifyReader a f).holidays = s.holidays := rfl
@[simp] theorem State.modifyReader_exactList (s : State) (a : ReaderNo) (f : Reader → Reader) :
    (s.modifyReader a f).exactList = s.exactList := rfl
@[simp] theorem State.modifyReader_filter (s : State) (a : ReaderNo) (f : Reader → Reader) :
    (s.modifyReader a f).filter = s.filter := rfl
@[simp] theorem State.modifyReader_pairings (s : State) (a : ReaderNo) (f : Reader → Reader) :
    (s.modifyReader a f).pairings = s.pairings := rfl
@[simp] theorem State.modifyReader_rooms (s : State) (a : ReaderNo) (f : Reader → Reader) :
    (s.modifyReader a f).rooms = s.rooms := rfl
@[simp] theorem State.modifyReader_doors (s : State) (a : ReaderNo) (f : Reader → Reader) :
    (s.modifyReader a f).doors = s.doors := rfl
@[simp] theorem State.modifyReader_inputs (s : State) (a : ReaderNo) (f : Reader → Reader) :
    (s.modifyReader a f).inputs = s.inputs := rfl
@[simp] theorem State.modifyReader_scanDue (s : State) (a : ReaderNo) (f : Reader → Reader) :
    (s.modifyReader a f).scanDue = s.scanDue := rfl
@[simp] theorem State.modifyReader_readers (s : State) (a : ReaderNo) (f : Reader → Reader) :
    (s.modifyReader a f).readers = s.readers.set a (f (s.reader a)) := rfl
@[simp] theorem State.modifyReader_round (s : State) (a : ReaderNo) (f : Reader → Reader) :
    (s.modifyReader a f).round = s.round := rfl
@[simp] theorem State.modifyReader_lastPolled (s : State) (a : ReaderNo) (f : Reader → Reader) :
    (s.modifyReader a f).lastPolled = s.lastPolled := rfl
@[simp] theorem State.modifyReader_roundReaders (s : State) (a : ReaderNo) (f : Reader → Reader) :
    (s.modifyReader a f).roundReaders = s.roundReaders := rfl
@[simp] theorem State.modifyReader_loop (s : State) (a : ReaderNo) (f : Reader → Reader) :
    (s.modifyReader a f).loop = s.loop := rfl
@[simp] theorem State.modifyReader_queue (s : State) (a : ReaderNo) (f : Reader → Reader) :
    (s.modifyReader a f).queue = s.queue := rfl
@[simp] theorem State.modifyReader_nextSequence (s : State) (a : ReaderNo) (f : Reader → Reader) :
    (s.modifyReader a f).nextSequence = s.nextSequence := rfl
@[simp] theorem State.modifyReader_lost (s : State) (a : ReaderNo) (f : Reader → Reader) :
    (s.modifyReader a f).lost = s.lost := rfl
@[simp] theorem State.modifyReader_station (s : State) (a : ReaderNo) (f : Reader → Reader) :
    (s.modifyReader a f).station = s.station := rfl
@[simp] theorem State.modifyReader_link (s : State) (a : ReaderNo) (f : Reader → Reader) :
    (s.modifyReader a f).link = s.link := rfl
@[simp] theorem State.modifyReader_silence (s : State) (a : ReaderNo) (f : Reader → Reader) :
    (s.modifyReader a f).silence = s.silence := rfl
@[simp] theorem State.modifyReader_window (s : State) (a : ReaderNo) (f : Reader → Reader) :
    (s.modifyReader a f).window = s.window := rfl
@[simp] theorem State.modifyReader_run (s : State) (a : ReaderNo) (f : Reader → Reader) :
    (s.modifyReader a f).run = s.run := rfl
@[simp] theorem State.modifyReader_sending (s : State) (a : ReaderNo) (f : Reader → Reader) :
    (s.modifyReader a f).sending = s.sending := rfl
@[simp] theorem State.modifyReader_responses (s : State) (a : ReaderNo) (f : Reader → Reader) :
    (s.modifyReader a f).responses = s.responses := rfl
@[simp] theorem State.modifyReader_params (s : State) (a : ReaderNo) (f : Reader → Reader) :
    (s.modifyReader a f).params = s.params := rfl
@[simp] theorem State.modifyReader_pinHeld (s : State) (a : ReaderNo) (f : Reader → Reader) :
    (s.modifyReader a f).pinHeld = s.pinHeld := rfl
@[simp] theorem State.modifyReader_pending (s : State) (a : ReaderNo) (f : Reader → Reader) :
    (s.modifyReader a f).pending = s.pending := rfl

/-! ## setPairing -/

@[simp] theorem State.setPairing_now (s : State) (k : DoorNo) (p : Option PairingRecord) :
    (s.setPairing k p).now = s.now := rfl
@[simp] theorem State.setPairing_nextTick (s : State) (k : DoorNo) (p : Option PairingRecord) :
    (s.setPairing k p).nextTick = s.nextTick := rfl
@[simp] theorem State.setPairing_clock (s : State) (k : DoorNo) (p : Option PairingRecord) :
    (s.setPairing k p).clock = s.clock := rfl
@[simp] theorem State.setPairing_permits (s : State) (k : DoorNo) (p : Option PairingRecord) :
    (s.setPairing k p).permits = s.permits := rfl
@[simp] theorem State.setPairing_schedules (s : State) (k : DoorNo) (p : Option PairingRecord) :
    (s.setPairing k p).schedules = s.schedules := rfl
@[simp] theorem State.setPairing_holidays (s : State) (k : DoorNo) (p : Option PairingRecord) :
    (s.setPairing k p).holidays = s.holidays := rfl
@[simp] theorem State.setPairing_exactList (s : State) (k : DoorNo) (p : Option PairingRecord) :
    (s.setPairing k p).exactList = s.exactList := rfl
@[simp] theorem State.setPairing_filter (s : State) (k : DoorNo) (p : Option PairingRecord) :
    (s.setPairing k p).filter = s.filter := rfl
@[simp] theorem State.setPairing_pairings (s : State) (k : DoorNo) (p : Option PairingRecord) :
    (s.setPairing k p).pairings = s.pairings.set k p := rfl
@[simp] theorem State.setPairing_rooms (s : State) (k : DoorNo) (p : Option PairingRecord) :
    (s.setPairing k p).rooms = s.rooms := rfl
@[simp] theorem State.setPairing_doors (s : State) (k : DoorNo) (p : Option PairingRecord) :
    (s.setPairing k p).doors = s.doors := rfl
@[simp] theorem State.setPairing_inputs (s : State) (k : DoorNo) (p : Option PairingRecord) :
    (s.setPairing k p).inputs = s.inputs := rfl
@[simp] theorem State.setPairing_scanDue (s : State) (k : DoorNo) (p : Option PairingRecord) :
    (s.setPairing k p).scanDue = s.scanDue := rfl
@[simp] theorem State.setPairing_readers (s : State) (k : DoorNo) (p : Option PairingRecord) :
    (s.setPairing k p).readers = s.readers := rfl
@[simp] theorem State.setPairing_round (s : State) (k : DoorNo) (p : Option PairingRecord) :
    (s.setPairing k p).round = s.round := rfl
@[simp] theorem State.setPairing_lastPolled (s : State) (k : DoorNo) (p : Option PairingRecord) :
    (s.setPairing k p).lastPolled = s.lastPolled := rfl
@[simp] theorem State.setPairing_roundReaders (s : State) (k : DoorNo) (p : Option PairingRecord) :
    (s.setPairing k p).roundReaders = s.roundReaders := rfl
@[simp] theorem State.setPairing_loop (s : State) (k : DoorNo) (p : Option PairingRecord) :
    (s.setPairing k p).loop = s.loop := rfl
@[simp] theorem State.setPairing_queue (s : State) (k : DoorNo) (p : Option PairingRecord) :
    (s.setPairing k p).queue = s.queue := rfl
@[simp] theorem State.setPairing_nextSequence (s : State) (k : DoorNo) (p : Option PairingRecord) :
    (s.setPairing k p).nextSequence = s.nextSequence := rfl
@[simp] theorem State.setPairing_lost (s : State) (k : DoorNo) (p : Option PairingRecord) :
    (s.setPairing k p).lost = s.lost := rfl
@[simp] theorem State.setPairing_station (s : State) (k : DoorNo) (p : Option PairingRecord) :
    (s.setPairing k p).station = s.station := rfl
@[simp] theorem State.setPairing_link (s : State) (k : DoorNo) (p : Option PairingRecord) :
    (s.setPairing k p).link = s.link := rfl
@[simp] theorem State.setPairing_silence (s : State) (k : DoorNo) (p : Option PairingRecord) :
    (s.setPairing k p).silence = s.silence := rfl
@[simp] theorem State.setPairing_window (s : State) (k : DoorNo) (p : Option PairingRecord) :
    (s.setPairing k p).window = s.window := rfl
@[simp] theorem State.setPairing_run (s : State) (k : DoorNo) (p : Option PairingRecord) :
    (s.setPairing k p).run = s.run := rfl
@[simp] theorem State.setPairing_sending (s : State) (k : DoorNo) (p : Option PairingRecord) :
    (s.setPairing k p).sending = s.sending := rfl
@[simp] theorem State.setPairing_responses (s : State) (k : DoorNo) (p : Option PairingRecord) :
    (s.setPairing k p).responses = s.responses := rfl
@[simp] theorem State.setPairing_params (s : State) (k : DoorNo) (p : Option PairingRecord) :
    (s.setPairing k p).params = s.params := rfl
@[simp] theorem State.setPairing_pinHeld (s : State) (k : DoorNo) (p : Option PairingRecord) :
    (s.setPairing k p).pinHeld = s.pinHeld := rfl
@[simp] theorem State.setPairing_pending (s : State) (k : DoorNo) (p : Option PairingRecord) :
    (s.setPairing k p).pending = s.pending := rfl

/-! ## reach -/

@[simp] theorem State.reach_now (s : State) (moment : Nat) :
    (s.reach moment).now = max s.now moment := rfl
@[simp] theorem State.reach_nextTick (s : State) (moment : Nat) :
    (s.reach moment).nextTick = s.nextTick := rfl
@[simp] theorem State.reach_clock (s : State) (moment : Nat) :
    (s.reach moment).clock = s.clock := rfl
@[simp] theorem State.reach_permits (s : State) (moment : Nat) :
    (s.reach moment).permits = s.permits := rfl
@[simp] theorem State.reach_schedules (s : State) (moment : Nat) :
    (s.reach moment).schedules = s.schedules := rfl
@[simp] theorem State.reach_holidays (s : State) (moment : Nat) :
    (s.reach moment).holidays = s.holidays := rfl
@[simp] theorem State.reach_exactList (s : State) (moment : Nat) :
    (s.reach moment).exactList = s.exactList := rfl
@[simp] theorem State.reach_filter (s : State) (moment : Nat) :
    (s.reach moment).filter = s.filter := rfl
@[simp] theorem State.reach_pairings (s : State) (moment : Nat) :
    (s.reach moment).pairings = s.pairings := rfl
@[simp] theorem State.reach_rooms (s : State) (moment : Nat) :
    (s.reach moment).rooms = s.rooms := rfl
@[simp] theorem State.reach_doors (s : State) (moment : Nat) :
    (s.reach moment).doors = s.doors := rfl
@[simp] theorem State.reach_inputs (s : State) (moment : Nat) :
    (s.reach moment).inputs = s.inputs := rfl
@[simp] theorem State.reach_scanDue (s : State) (moment : Nat) :
    (s.reach moment).scanDue = s.scanDue := rfl
@[simp] theorem State.reach_readers (s : State) (moment : Nat) :
    (s.reach moment).readers = s.readers := rfl
@[simp] theorem State.reach_round (s : State) (moment : Nat) :
    (s.reach moment).round = s.round := rfl
@[simp] theorem State.reach_lastPolled (s : State) (moment : Nat) :
    (s.reach moment).lastPolled = s.lastPolled := rfl
@[simp] theorem State.reach_roundReaders (s : State) (moment : Nat) :
    (s.reach moment).roundReaders = s.roundReaders := rfl
@[simp] theorem State.reach_loop (s : State) (moment : Nat) :
    (s.reach moment).loop = s.loop := rfl
@[simp] theorem State.reach_queue (s : State) (moment : Nat) :
    (s.reach moment).queue = s.queue := rfl
@[simp] theorem State.reach_nextSequence (s : State) (moment : Nat) :
    (s.reach moment).nextSequence = s.nextSequence := rfl
@[simp] theorem State.reach_lost (s : State) (moment : Nat) :
    (s.reach moment).lost = s.lost := rfl
@[simp] theorem State.reach_station (s : State) (moment : Nat) :
    (s.reach moment).station = s.station := rfl
@[simp] theorem State.reach_link (s : State) (moment : Nat) :
    (s.reach moment).link = s.link := rfl
@[simp] theorem State.reach_silence (s : State) (moment : Nat) :
    (s.reach moment).silence = s.silence := rfl
@[simp] theorem State.reach_window (s : State) (moment : Nat) :
    (s.reach moment).window = s.window := rfl
@[simp] theorem State.reach_run (s : State) (moment : Nat) :
    (s.reach moment).run = s.run := rfl
@[simp] theorem State.reach_sending (s : State) (moment : Nat) :
    (s.reach moment).sending = s.sending := rfl
@[simp] theorem State.reach_responses (s : State) (moment : Nat) :
    (s.reach moment).responses = s.responses := rfl
@[simp] theorem State.reach_params (s : State) (moment : Nat) :
    (s.reach moment).params = s.params := rfl
@[simp] theorem State.reach_pinHeld (s : State) (moment : Nat) :
    (s.reach moment).pinHeld = s.pinHeld := rfl
@[simp] theorem State.reach_pending (s : State) (moment : Nat) :
    (s.reach moment).pending = s.pending := rfl

/-! ## closeWindow -/

@[simp] theorem State.closeWindow_now (s : State) :
    (s.closeWindow).now = s.now := rfl
@[simp] theorem State.closeWindow_nextTick (s : State) :
    (s.closeWindow).nextTick = s.nextTick := rfl
@[simp] theorem State.closeWindow_clock (s : State) :
    (s.closeWindow).clock = s.clock := rfl
@[simp] theorem State.closeWindow_permits (s : State) :
    (s.closeWindow).permits = s.permits := rfl
@[simp] theorem State.closeWindow_schedules (s : State) :
    (s.closeWindow).schedules = s.schedules := rfl
@[simp] theorem State.closeWindow_holidays (s : State) :
    (s.closeWindow).holidays = s.holidays := rfl
@[simp] theorem State.closeWindow_exactList (s : State) :
    (s.closeWindow).exactList = s.exactList := rfl
@[simp] theorem State.closeWindow_filter (s : State) :
    (s.closeWindow).filter = s.filter := rfl
@[simp] theorem State.closeWindow_pairings (s : State) :
    (s.closeWindow).pairings = s.pairings := rfl
@[simp] theorem State.closeWindow_rooms (s : State) :
    (s.closeWindow).rooms = s.rooms := rfl
@[simp] theorem State.closeWindow_doors (s : State) :
    (s.closeWindow).doors = s.doors := rfl
@[simp] theorem State.closeWindow_inputs (s : State) :
    (s.closeWindow).inputs = s.inputs := rfl
@[simp] theorem State.closeWindow_scanDue (s : State) :
    (s.closeWindow).scanDue = s.scanDue := rfl
@[simp] theorem State.closeWindow_readers (s : State) :
    (s.closeWindow).readers = s.readers := rfl
@[simp] theorem State.closeWindow_round (s : State) :
    (s.closeWindow).round = s.round := rfl
@[simp] theorem State.closeWindow_lastPolled (s : State) :
    (s.closeWindow).lastPolled = s.lastPolled := rfl
@[simp] theorem State.closeWindow_roundReaders (s : State) :
    (s.closeWindow).roundReaders = s.roundReaders := rfl
@[simp] theorem State.closeWindow_loop (s : State) :
    (s.closeWindow).loop = s.loop := rfl
@[simp] theorem State.closeWindow_queue (s : State) :
    (s.closeWindow).queue = s.queue := rfl
@[simp] theorem State.closeWindow_nextSequence (s : State) :
    (s.closeWindow).nextSequence = s.nextSequence := rfl
@[simp] theorem State.closeWindow_lost (s : State) :
    (s.closeWindow).lost = s.lost := rfl
@[simp] theorem State.closeWindow_station (s : State) :
    (s.closeWindow).station = s.station := rfl
@[simp] theorem State.closeWindow_link (s : State) :
    (s.closeWindow).link = s.link := rfl
@[simp] theorem State.closeWindow_silence (s : State) :
    (s.closeWindow).silence = s.silence := rfl
@[simp] theorem State.closeWindow_window (s : State) :
    (s.closeWindow).window = none := rfl
@[simp] theorem State.closeWindow_run (s : State) :
    (s.closeWindow).run = s.run := rfl
@[simp] theorem State.closeWindow_sending (s : State) :
    (s.closeWindow).sending = s.sending := rfl
@[simp] theorem State.closeWindow_responses (s : State) :
    (s.closeWindow).responses = s.responses := rfl
@[simp] theorem State.closeWindow_params (s : State) :
    (s.closeWindow).params = s.params := rfl
@[simp] theorem State.closeWindow_pinHeld (s : State) :
    (s.closeWindow).pinHeld = s.pinHeld := rfl
@[simp] theorem State.closeWindow_pending (s : State) :
    (s.closeWindow).pending = s.pending := rfl

/-! ## zeroCounts -/

@[simp] theorem State.zeroCounts_now (s : State) :
    (s.zeroCounts).now = s.now := rfl
@[simp] theorem State.zeroCounts_nextTick (s : State) :
    (s.zeroCounts).nextTick = s.nextTick := rfl
@[simp] theorem State.zeroCounts_clock (s : State) :
    (s.zeroCounts).clock = s.clock := rfl
@[simp] theorem State.zeroCounts_permits (s : State) :
    (s.zeroCounts).permits = s.permits.map fun e => (e.1, { e.2 with count := 0 }) := rfl
@[simp] theorem State.zeroCounts_schedules (s : State) :
    (s.zeroCounts).schedules = s.schedules := rfl
@[simp] theorem State.zeroCounts_holidays (s : State) :
    (s.zeroCounts).holidays = s.holidays := rfl
@[simp] theorem State.zeroCounts_exactList (s : State) :
    (s.zeroCounts).exactList = s.exactList := rfl
@[simp] theorem State.zeroCounts_filter (s : State) :
    (s.zeroCounts).filter = s.filter := rfl
@[simp] theorem State.zeroCounts_pairings (s : State) :
    (s.zeroCounts).pairings = s.pairings := rfl
@[simp] theorem State.zeroCounts_rooms (s : State) :
    (s.zeroCounts).rooms = s.rooms := rfl
@[simp] theorem State.zeroCounts_doors (s : State) :
    (s.zeroCounts).doors = s.doors := rfl
@[simp] theorem State.zeroCounts_inputs (s : State) :
    (s.zeroCounts).inputs = s.inputs := rfl
@[simp] theorem State.zeroCounts_scanDue (s : State) :
    (s.zeroCounts).scanDue = s.scanDue := rfl
@[simp] theorem State.zeroCounts_readers (s : State) :
    (s.zeroCounts).readers = s.readers := rfl
@[simp] theorem State.zeroCounts_round (s : State) :
    (s.zeroCounts).round = s.round := rfl
@[simp] theorem State.zeroCounts_lastPolled (s : State) :
    (s.zeroCounts).lastPolled = s.lastPolled := rfl
@[simp] theorem State.zeroCounts_roundReaders (s : State) :
    (s.zeroCounts).roundReaders = s.roundReaders := rfl
@[simp] theorem State.zeroCounts_loop (s : State) :
    (s.zeroCounts).loop = s.loop := rfl
@[simp] theorem State.zeroCounts_queue (s : State) :
    (s.zeroCounts).queue = s.queue := rfl
@[simp] theorem State.zeroCounts_nextSequence (s : State) :
    (s.zeroCounts).nextSequence = s.nextSequence := rfl
@[simp] theorem State.zeroCounts_lost (s : State) :
    (s.zeroCounts).lost = s.lost := rfl
@[simp] theorem State.zeroCounts_station (s : State) :
    (s.zeroCounts).station = s.station := rfl
@[simp] theorem State.zeroCounts_link (s : State) :
    (s.zeroCounts).link = s.link := rfl
@[simp] theorem State.zeroCounts_silence (s : State) :
    (s.zeroCounts).silence = s.silence := rfl
@[simp] theorem State.zeroCounts_window (s : State) :
    (s.zeroCounts).window = s.window := rfl
@[simp] theorem State.zeroCounts_run (s : State) :
    (s.zeroCounts).run = s.run := rfl
@[simp] theorem State.zeroCounts_sending (s : State) :
    (s.zeroCounts).sending = s.sending := rfl
@[simp] theorem State.zeroCounts_responses (s : State) :
    (s.zeroCounts).responses = s.responses := rfl
@[simp] theorem State.zeroCounts_params (s : State) :
    (s.zeroCounts).params = s.params := rfl
@[simp] theorem State.zeroCounts_pinHeld (s : State) :
    (s.zeroCounts).pinHeld = s.pinHeld := rfl
@[simp] theorem State.zeroCounts_pending (s : State) :
    (s.zeroCounts).pending = s.pending := rfl

/-! ## raiseCount -/

@[simp] theorem State.raiseCount_now (s : State) (n : Nat) :
    (s.raiseCount n).now = s.now := rfl
@[simp] theorem State.raiseCount_nextTick (s : State) (n : Nat) :
    (s.raiseCount n).nextTick = s.nextTick := rfl
@[simp] theorem State.raiseCount_clock (s : State) (n : Nat) :
    (s.raiseCount n).clock = s.clock := rfl
@[simp] theorem State.raiseCount_permits (s : State) (n : Nat) :
    (s.raiseCount n).permits = changeSlot n PermitSlot.raised s.permits := rfl
@[simp] theorem State.raiseCount_schedules (s : State) (n : Nat) :
    (s.raiseCount n).schedules = s.schedules := rfl
@[simp] theorem State.raiseCount_holidays (s : State) (n : Nat) :
    (s.raiseCount n).holidays = s.holidays := rfl
@[simp] theorem State.raiseCount_exactList (s : State) (n : Nat) :
    (s.raiseCount n).exactList = s.exactList := rfl
@[simp] theorem State.raiseCount_filter (s : State) (n : Nat) :
    (s.raiseCount n).filter = s.filter := rfl
@[simp] theorem State.raiseCount_pairings (s : State) (n : Nat) :
    (s.raiseCount n).pairings = s.pairings := rfl
@[simp] theorem State.raiseCount_rooms (s : State) (n : Nat) :
    (s.raiseCount n).rooms = s.rooms := rfl
@[simp] theorem State.raiseCount_doors (s : State) (n : Nat) :
    (s.raiseCount n).doors = s.doors := rfl
@[simp] theorem State.raiseCount_inputs (s : State) (n : Nat) :
    (s.raiseCount n).inputs = s.inputs := rfl
@[simp] theorem State.raiseCount_scanDue (s : State) (n : Nat) :
    (s.raiseCount n).scanDue = s.scanDue := rfl
@[simp] theorem State.raiseCount_readers (s : State) (n : Nat) :
    (s.raiseCount n).readers = s.readers := rfl
@[simp] theorem State.raiseCount_round (s : State) (n : Nat) :
    (s.raiseCount n).round = s.round := rfl
@[simp] theorem State.raiseCount_lastPolled (s : State) (n : Nat) :
    (s.raiseCount n).lastPolled = s.lastPolled := rfl
@[simp] theorem State.raiseCount_roundReaders (s : State) (n : Nat) :
    (s.raiseCount n).roundReaders = s.roundReaders := rfl
@[simp] theorem State.raiseCount_loop (s : State) (n : Nat) :
    (s.raiseCount n).loop = s.loop := rfl
@[simp] theorem State.raiseCount_queue (s : State) (n : Nat) :
    (s.raiseCount n).queue = s.queue := rfl
@[simp] theorem State.raiseCount_nextSequence (s : State) (n : Nat) :
    (s.raiseCount n).nextSequence = s.nextSequence := rfl
@[simp] theorem State.raiseCount_lost (s : State) (n : Nat) :
    (s.raiseCount n).lost = s.lost := rfl
@[simp] theorem State.raiseCount_station (s : State) (n : Nat) :
    (s.raiseCount n).station = s.station := rfl
@[simp] theorem State.raiseCount_link (s : State) (n : Nat) :
    (s.raiseCount n).link = s.link := rfl
@[simp] theorem State.raiseCount_silence (s : State) (n : Nat) :
    (s.raiseCount n).silence = s.silence := rfl
@[simp] theorem State.raiseCount_window (s : State) (n : Nat) :
    (s.raiseCount n).window = s.window := rfl
@[simp] theorem State.raiseCount_run (s : State) (n : Nat) :
    (s.raiseCount n).run = s.run := rfl
@[simp] theorem State.raiseCount_sending (s : State) (n : Nat) :
    (s.raiseCount n).sending = s.sending := rfl
@[simp] theorem State.raiseCount_responses (s : State) (n : Nat) :
    (s.raiseCount n).responses = s.responses := rfl
@[simp] theorem State.raiseCount_params (s : State) (n : Nat) :
    (s.raiseCount n).params = s.params := rfl
@[simp] theorem State.raiseCount_pinHeld (s : State) (n : Nat) :
    (s.raiseCount n).pinHeld = s.pinHeld := rfl
@[simp] theorem State.raiseCount_pending (s : State) (n : Nat) :
    (s.raiseCount n).pending = s.pending := rfl

/-! ## returnCount -/

@[simp] theorem State.returnCount_now (s : State) (n : Nat) (c : Credential) (w : Nat) :
    (s.returnCount n c w).now = s.now := rfl
@[simp] theorem State.returnCount_nextTick (s : State) (n : Nat) (c : Credential) (w : Nat) :
    (s.returnCount n c w).nextTick = s.nextTick := rfl
@[simp] theorem State.returnCount_clock (s : State) (n : Nat) (c : Credential) (w : Nat) :
    (s.returnCount n c w).clock = s.clock := rfl
@[simp] theorem State.returnCount_permits (s : State) (n : Nat) (c : Credential) (w : Nat) :
    (s.returnCount n c w).permits = changeSlot n (PermitSlot.returned c w) s.permits := rfl
@[simp] theorem State.returnCount_schedules (s : State) (n : Nat) (c : Credential) (w : Nat) :
    (s.returnCount n c w).schedules = s.schedules := rfl
@[simp] theorem State.returnCount_holidays (s : State) (n : Nat) (c : Credential) (w : Nat) :
    (s.returnCount n c w).holidays = s.holidays := rfl
@[simp] theorem State.returnCount_exactList (s : State) (n : Nat) (c : Credential) (w : Nat) :
    (s.returnCount n c w).exactList = s.exactList := rfl
@[simp] theorem State.returnCount_filter (s : State) (n : Nat) (c : Credential) (w : Nat) :
    (s.returnCount n c w).filter = s.filter := rfl
@[simp] theorem State.returnCount_pairings (s : State) (n : Nat) (c : Credential) (w : Nat) :
    (s.returnCount n c w).pairings = s.pairings := rfl
@[simp] theorem State.returnCount_rooms (s : State) (n : Nat) (c : Credential) (w : Nat) :
    (s.returnCount n c w).rooms = s.rooms := rfl
@[simp] theorem State.returnCount_doors (s : State) (n : Nat) (c : Credential) (w : Nat) :
    (s.returnCount n c w).doors = s.doors := rfl
@[simp] theorem State.returnCount_inputs (s : State) (n : Nat) (c : Credential) (w : Nat) :
    (s.returnCount n c w).inputs = s.inputs := rfl
@[simp] theorem State.returnCount_scanDue (s : State) (n : Nat) (c : Credential) (w : Nat) :
    (s.returnCount n c w).scanDue = s.scanDue := rfl
@[simp] theorem State.returnCount_readers (s : State) (n : Nat) (c : Credential) (w : Nat) :
    (s.returnCount n c w).readers = s.readers := rfl
@[simp] theorem State.returnCount_round (s : State) (n : Nat) (c : Credential) (w : Nat) :
    (s.returnCount n c w).round = s.round := rfl
@[simp] theorem State.returnCount_lastPolled (s : State) (n : Nat) (c : Credential) (w : Nat) :
    (s.returnCount n c w).lastPolled = s.lastPolled := rfl
@[simp] theorem State.returnCount_roundReaders (s : State) (n : Nat) (c : Credential) (w : Nat) :
    (s.returnCount n c w).roundReaders = s.roundReaders := rfl
@[simp] theorem State.returnCount_loop (s : State) (n : Nat) (c : Credential) (w : Nat) :
    (s.returnCount n c w).loop = s.loop := rfl
@[simp] theorem State.returnCount_queue (s : State) (n : Nat) (c : Credential) (w : Nat) :
    (s.returnCount n c w).queue = s.queue := rfl
@[simp] theorem State.returnCount_nextSequence (s : State) (n : Nat) (c : Credential) (w : Nat) :
    (s.returnCount n c w).nextSequence = s.nextSequence := rfl
@[simp] theorem State.returnCount_lost (s : State) (n : Nat) (c : Credential) (w : Nat) :
    (s.returnCount n c w).lost = s.lost := rfl
@[simp] theorem State.returnCount_station (s : State) (n : Nat) (c : Credential) (w : Nat) :
    (s.returnCount n c w).station = s.station := rfl
@[simp] theorem State.returnCount_link (s : State) (n : Nat) (c : Credential) (w : Nat) :
    (s.returnCount n c w).link = s.link := rfl
@[simp] theorem State.returnCount_silence (s : State) (n : Nat) (c : Credential) (w : Nat) :
    (s.returnCount n c w).silence = s.silence := rfl
@[simp] theorem State.returnCount_window (s : State) (n : Nat) (c : Credential) (w : Nat) :
    (s.returnCount n c w).window = s.window := rfl
@[simp] theorem State.returnCount_run (s : State) (n : Nat) (c : Credential) (w : Nat) :
    (s.returnCount n c w).run = s.run := rfl
@[simp] theorem State.returnCount_sending (s : State) (n : Nat) (c : Credential) (w : Nat) :
    (s.returnCount n c w).sending = s.sending := rfl
@[simp] theorem State.returnCount_responses (s : State) (n : Nat) (c : Credential) (w : Nat) :
    (s.returnCount n c w).responses = s.responses := rfl
@[simp] theorem State.returnCount_params (s : State) (n : Nat) (c : Credential) (w : Nat) :
    (s.returnCount n c w).params = s.params := rfl
@[simp] theorem State.returnCount_pinHeld (s : State) (n : Nat) (c : Credential) (w : Nat) :
    (s.returnCount n c w).pinHeld = s.pinHeld := rfl
@[simp] theorem State.returnCount_pending (s : State) (n : Nat) (c : Credential) (w : Nat) :
    (s.returnCount n c w).pending = s.pending := rfl

end Sys2Proof.Machine
end

