-- ==== Sys2Proof/Laws/Records.lean ====
section
/-! SUPPORT. Reading one door, room, input, reader or pairing record after writing one, and what submitting a
record leaves alone (R181 to R184). -/

namespace Sys2Proof.Machine

/-! ## Reading after writing -/

theorem State.door_setDoor (s : State) (k j : DoorNo) (d : DoorChannel) :
    (s.setDoor k d).door j = if k = j then d else s.door j := by
  simp [State.door, State.setDoor, Vector.getElem_set, Fin.ext_iff]

theorem State.room_setRoom (s : State) (r q : RoomNo) (x : Room) :
    (s.setRoom r x).room q = if r = q then x else s.room q := by
  simp [State.room, State.setRoom, Vector.getElem_set, Fin.ext_iff]

theorem State.input_setInput (s : State) (i j : InputNo) (x : InputLine) :
    (s.setInput i x).input j = if i = j then x else s.input j := by
  simp [State.input, State.setInput, Vector.getElem_set, Fin.ext_iff]

theorem State.reader_setReader (s : State) (a b : ReaderNo) (x : Reader) :
    (s.setReader a x).reader b = if a = b then x else s.reader b := by
  simp [State.reader, State.setReader, Vector.getElem_set, Fin.ext_iff]

theorem State.pairing_setPairing (s : State) (k j : DoorNo) (p : Option PairingRecord) :
    (s.setPairing k p).pairing j = if k = j then p else s.pairing j := by
  simp [State.pairing, State.setPairing, Vector.getElem_set, Fin.ext_iff]

theorem State.door_modifyDoor (s : State) (k j : DoorNo) (f : DoorChannel → DoorChannel) :
    (s.modifyDoor k f).door j = if k = j then f (s.door k) else s.door j :=
  State.door_setDoor s k j _

theorem State.room_modifyRoom (s : State) (r q : RoomNo) (f : Room → Room) :
    (s.modifyRoom r f).room q = if r = q then f (s.room r) else s.room q :=
  State.room_setRoom s r q _

theorem State.input_modifyInput (s : State) (i j : InputNo) (f : InputLine → InputLine) :
    (s.modifyInput i f).input j = if i = j then f (s.input i) else s.input j :=
  State.input_setInput s i j _

theorem State.reader_modifyReader (s : State) (a b : ReaderNo) (f : Reader → Reader) :
    (s.modifyReader a f).reader b = if a = b then f (s.reader a) else s.reader b :=
  State.reader_setReader s a b _

/-! ## Submitting a record -/

/-- Everything that submitting a record can do: it changes the queue, the next sequence and the lost count,
and nothing else. -/
theorem State.submit_form (s : State) (r : Report) :
    ∃ q n l, s.submit r = { s with queue := q, nextSequence := n, lost := l } := by
  by_cases h : s.params.priority r.kind = 0
  · exact ⟨s.queue, s.nextSequence, s.lost, if_pos h⟩
  · exact ⟨_, _, _, if_neg h⟩

/-- Everything that submitting several records can do. -/
theorem State.submitAll_form (rs : List Report) (s : State) :
    ∃ q n l, s.submitAll rs = { s with queue := q, nextSequence := n, lost := l } := by
  induction rs generalizing s with
  | nil => exact ⟨s.queue, s.nextSequence, s.lost, rfl⟩
  | cons r rs ih =>
    obtain ⟨q, n, l, h⟩ := s.submit_form r
    obtain ⟨q', n', l', h'⟩ := ih (s.submit r)
    exact ⟨q', n', l', by rw [show s.submitAll (r :: rs) = (s.submit r).submitAll rs from rfl, h', h]⟩

@[simp] theorem State.submit_now (s : State) (r : Report) :
    (s.submit r).now = s.now := by
  obtain ⟨_, _, _, h⟩ := s.submit_form r; rw [h]

@[simp] theorem State.submit_nextTick (s : State) (r : Report) :
    (s.submit r).nextTick = s.nextTick := by
  obtain ⟨_, _, _, h⟩ := s.submit_form r; rw [h]

@[simp] theorem State.submit_clock (s : State) (r : Report) :
    (s.submit r).clock = s.clock := by
  obtain ⟨_, _, _, h⟩ := s.submit_form r; rw [h]

@[simp] theorem State.submit_permits (s : State) (r : Report) :
    (s.submit r).permits = s.permits := by
  obtain ⟨_, _, _, h⟩ := s.submit_form r; rw [h]

@[simp] theorem State.submit_schedules (s : State) (r : Report) :
    (s.submit r).schedules = s.schedules := by
  obtain ⟨_, _, _, h⟩ := s.submit_form r; rw [h]

@[simp] theorem State.submit_holidays (s : State) (r : Report) :
    (s.submit r).holidays = s.holidays := by
  obtain ⟨_, _, _, h⟩ := s.submit_form r; rw [h]

@[simp] theorem State.submit_exactList (s : State) (r : Report) :
    (s.submit r).exactList = s.exactList := by
  obtain ⟨_, _, _, h⟩ := s.submit_form r; rw [h]

@[simp] theorem State.submit_filter (s : State) (r : Report) :
    (s.submit r).filter = s.filter := by
  obtain ⟨_, _, _, h⟩ := s.submit_form r; rw [h]

@[simp] theorem State.submit_pairings (s : State) (r : Report) :
    (s.submit r).pairings = s.pairings := by
  obtain ⟨_, _, _, h⟩ := s.submit_form r; rw [h]

@[simp] theorem State.submit_rooms (s : State) (r : Report) :
    (s.submit r).rooms = s.rooms := by
  obtain ⟨_, _, _, h⟩ := s.submit_form r; rw [h]

@[simp] theorem State.submit_doors (s : State) (r : Report) :
    (s.submit r).doors = s.doors := by
  obtain ⟨_, _, _, h⟩ := s.submit_form r; rw [h]

@[simp] theorem State.submit_inputs (s : State) (r : Report) :
    (s.submit r).inputs = s.inputs := by
  obtain ⟨_, _, _, h⟩ := s.submit_form r; rw [h]

@[simp] theorem State.submit_scanDue (s : State) (r : Report) :
    (s.submit r).scanDue = s.scanDue := by
  obtain ⟨_, _, _, h⟩ := s.submit_form r; rw [h]

@[simp] theorem State.submit_readers (s : State) (r : Report) :
    (s.submit r).readers = s.readers := by
  obtain ⟨_, _, _, h⟩ := s.submit_form r; rw [h]

@[simp] theorem State.submit_round (s : State) (r : Report) :
    (s.submit r).round = s.round := by
  obtain ⟨_, _, _, h⟩ := s.submit_form r; rw [h]

@[simp] theorem State.submit_lastPolled (s : State) (r : Report) :
    (s.submit r).lastPolled = s.lastPolled := by
  obtain ⟨_, _, _, h⟩ := s.submit_form r; rw [h]

@[simp] theorem State.submit_roundReaders (s : State) (r : Report) :
    (s.submit r).roundReaders = s.roundReaders := by
  obtain ⟨_, _, _, h⟩ := s.submit_form r; rw [h]

@[simp] theorem State.submit_loop (s : State) (r : Report) :
    (s.submit r).loop = s.loop := by
  obtain ⟨_, _, _, h⟩ := s.submit_form r; rw [h]

@[simp] theorem State.submit_station (s : State) (r : Report) :
    (s.submit r).station = s.station := by
  obtain ⟨_, _, _, h⟩ := s.submit_form r; rw [h]

@[simp] theorem State.submit_link (s : State) (r : Report) :
    (s.submit r).link = s.link := by
  obtain ⟨_, _, _, h⟩ := s.submit_form r; rw [h]

@[simp] theorem State.submit_silence (s : State) (r : Report) :
    (s.submit r).silence = s.silence := by
  obtain ⟨_, _, _, h⟩ := s.submit_form r; rw [h]

@[simp] theorem State.submit_window (s : State) (r : Report) :
    (s.submit r).window = s.window := by
  obtain ⟨_, _, _, h⟩ := s.submit_form r; rw [h]

@[simp] theorem State.submit_run (s : State) (r : Report) :
    (s.submit r).run = s.run := by
  obtain ⟨_, _, _, h⟩ := s.submit_form r; rw [h]

@[simp] theorem State.submit_sending (s : State) (r : Report) :
    (s.submit r).sending = s.sending := by
  obtain ⟨_, _, _, h⟩ := s.submit_form r; rw [h]

@[simp] theorem State.submit_responses (s : State) (r : Report) :
    (s.submit r).responses = s.responses := by
  obtain ⟨_, _, _, h⟩ := s.submit_form r; rw [h]

@[simp] theorem State.submit_params (s : State) (r : Report) :
    (s.submit r).params = s.params := by
  obtain ⟨_, _, _, h⟩ := s.submit_form r; rw [h]

@[simp] theorem State.submit_pinHeld (s : State) (r : Report) :
    (s.submit r).pinHeld = s.pinHeld := by
  obtain ⟨_, _, _, h⟩ := s.submit_form r; rw [h]

@[simp] theorem State.submit_pending (s : State) (r : Report) :
    (s.submit r).pending = s.pending := by
  obtain ⟨_, _, _, h⟩ := s.submit_form r; rw [h]

@[simp] theorem State.submit_door (s : State) (r : Report) (x : DoorNo) :
    (s.submit r).door x = s.door x := by
  obtain ⟨_, _, _, h⟩ := s.submit_form r; rw [h]; rfl

@[simp] theorem State.submit_room (s : State) (r : Report) (x : RoomNo) :
    (s.submit r).room x = s.room x := by
  obtain ⟨_, _, _, h⟩ := s.submit_form r; rw [h]; rfl

@[simp] theorem State.submit_input (s : State) (r : Report) (x : InputNo) :
    (s.submit r).input x = s.input x := by
  obtain ⟨_, _, _, h⟩ := s.submit_form r; rw [h]; rfl

@[simp] theorem State.submit_reader (s : State) (r : Report) (x : ReaderNo) :
    (s.submit r).reader x = s.reader x := by
  obtain ⟨_, _, _, h⟩ := s.submit_form r; rw [h]; rfl

@[simp] theorem State.submit_pairing (s : State) (r : Report) (x : DoorNo) :
    (s.submit r).pairing x = s.pairing x := by
  obtain ⟨_, _, _, h⟩ := s.submit_form r; rw [h]; rfl

@[simp] theorem State.submitAll_now (s : State) (rs : List Report) :
    (s.submitAll rs).now = s.now := by
  obtain ⟨_, _, _, h⟩ := State.submitAll_form rs s; rw [h]

@[simp] theorem State.submitAll_nextTick (s : State) (rs : List Report) :
    (s.submitAll rs).nextTick = s.nextTick := by
  obtain ⟨_, _, _, h⟩ := State.submitAll_form rs s; rw [h]

@[simp] theorem State.submitAll_clock (s : State) (rs : List Report) :
    (s.submitAll rs).clock = s.clock := by
  obtain ⟨_, _, _, h⟩ := State.submitAll_form rs s; rw [h]

@[simp] theorem State.submitAll_permits (s : State) (rs : List Report) :
    (s.submitAll rs).permits = s.permits := by
  obtain ⟨_, _, _, h⟩ := State.submitAll_form rs s; rw [h]

@[simp] theorem State.submitAll_schedules (s : State) (rs : List Report) :
    (s.submitAll rs).schedules = s.schedules := by
  obtain ⟨_, _, _, h⟩ := State.submitAll_form rs s; rw [h]

@[simp] theorem State.submitAll_holidays (s : State) (rs : List Report) :
    (s.submitAll rs).holidays = s.holidays := by
  obtain ⟨_, _, _, h⟩ := State.submitAll_form rs s; rw [h]

@[simp] theorem State.submitAll_exactList (s : State) (rs : List Report) :
    (s.submitAll rs).exactList = s.exactList := by
  obtain ⟨_, _, _, h⟩ := State.submitAll_form rs s; rw [h]

@[simp] theorem State.submitAll_filter (s : State) (rs : List Report) :
    (s.submitAll rs).filter = s.filter := by
  obtain ⟨_, _, _, h⟩ := State.submitAll_form rs s; rw [h]

@[simp] theorem State.submitAll_pairings (s : State) (rs : List Report) :
    (s.submitAll rs).pairings = s.pairings := by
  obtain ⟨_, _, _, h⟩ := State.submitAll_form rs s; rw [h]

@[simp] theorem State.submitAll_rooms (s : State) (rs : List Report) :
    (s.submitAll rs).rooms = s.rooms := by
  obtain ⟨_, _, _, h⟩ := State.submitAll_form rs s; rw [h]

@[simp] theorem State.submitAll_doors (s : State) (rs : List Report) :
    (s.submitAll rs).doors = s.doors := by
  obtain ⟨_, _, _, h⟩ := State.submitAll_form rs s; rw [h]

@[simp] theorem State.submitAll_inputs (s : State) (rs : List Report) :
    (s.submitAll rs).inputs = s.inputs := by
  obtain ⟨_, _, _, h⟩ := State.submitAll_form rs s; rw [h]

@[simp] theorem State.submitAll_scanDue (s : State) (rs : List Report) :
    (s.submitAll rs).scanDue = s.scanDue := by
  obtain ⟨_, _, _, h⟩ := State.submitAll_form rs s; rw [h]

@[simp] theorem State.submitAll_readers (s : State) (rs : List Report) :
    (s.submitAll rs).readers = s.readers := by
  obtain ⟨_, _, _, h⟩ := State.submitAll_form rs s; rw [h]

@[simp] theorem State.submitAll_round (s : State) (rs : List Report) :
    (s.submitAll rs).round = s.round := by
  obtain ⟨_, _, _, h⟩ := State.submitAll_form rs s; rw [h]

@[simp] theorem State.submitAll_lastPolled (s : State) (rs : List Report) :
    (s.submitAll rs).lastPolled = s.lastPolled := by
  obtain ⟨_, _, _, h⟩ := State.submitAll_form rs s; rw [h]

@[simp] theorem State.submitAll_roundReaders (s : State) (rs : List Report) :
    (s.submitAll rs).roundReaders = s.roundReaders := by
  obtain ⟨_, _, _, h⟩ := State.submitAll_form rs s; rw [h]

@[simp] theorem State.submitAll_loop (s : State) (rs : List Report) :
    (s.submitAll rs).loop = s.loop := by
  obtain ⟨_, _, _, h⟩ := State.submitAll_form rs s; rw [h]

@[simp] theorem State.submitAll_station (s : State) (rs : List Report) :
    (s.submitAll rs).station = s.station := by
  obtain ⟨_, _, _, h⟩ := State.submitAll_form rs s; rw [h]

@[simp] theorem State.submitAll_link (s : State) (rs : List Report) :
    (s.submitAll rs).link = s.link := by
  obtain ⟨_, _, _, h⟩ := State.submitAll_form rs s; rw [h]

@[simp] theorem State.submitAll_silence (s : State) (rs : List Report) :
    (s.submitAll rs).silence = s.silence := by
  obtain ⟨_, _, _, h⟩ := State.submitAll_form rs s; rw [h]

@[simp] theorem State.submitAll_window (s : State) (rs : List Report) :
    (s.submitAll rs).window = s.window := by
  obtain ⟨_, _, _, h⟩ := State.submitAll_form rs s; rw [h]

@[simp] theorem State.submitAll_run (s : State) (rs : List Report) :
    (s.submitAll rs).run = s.run := by
  obtain ⟨_, _, _, h⟩ := State.submitAll_form rs s; rw [h]

@[simp] theorem State.submitAll_sending (s : State) (rs : List Report) :
    (s.submitAll rs).sending = s.sending := by
  obtain ⟨_, _, _, h⟩ := State.submitAll_form rs s; rw [h]

@[simp] theorem State.submitAll_responses (s : State) (rs : List Report) :
    (s.submitAll rs).responses = s.responses := by
  obtain ⟨_, _, _, h⟩ := State.submitAll_form rs s; rw [h]

@[simp] theorem State.submitAll_params (s : State) (rs : List Report) :
    (s.submitAll rs).params = s.params := by
  obtain ⟨_, _, _, h⟩ := State.submitAll_form rs s; rw [h]

@[simp] theorem State.submitAll_pinHeld (s : State) (rs : List Report) :
    (s.submitAll rs).pinHeld = s.pinHeld := by
  obtain ⟨_, _, _, h⟩ := State.submitAll_form rs s; rw [h]

@[simp] theorem State.submitAll_pending (s : State) (rs : List Report) :
    (s.submitAll rs).pending = s.pending := by
  obtain ⟨_, _, _, h⟩ := State.submitAll_form rs s; rw [h]

@[simp] theorem State.submitAll_door (s : State) (rs : List Report) (x : DoorNo) :
    (s.submitAll rs).door x = s.door x := by
  obtain ⟨_, _, _, h⟩ := State.submitAll_form rs s; rw [h]; rfl

@[simp] theorem State.submitAll_room (s : State) (rs : List Report) (x : RoomNo) :
    (s.submitAll rs).room x = s.room x := by
  obtain ⟨_, _, _, h⟩ := State.submitAll_form rs s; rw [h]; rfl

@[simp] theorem State.submitAll_input (s : State) (rs : List Report) (x : InputNo) :
    (s.submitAll rs).input x = s.input x := by
  obtain ⟨_, _, _, h⟩ := State.submitAll_form rs s; rw [h]; rfl

@[simp] theorem State.submitAll_reader (s : State) (rs : List Report) (x : ReaderNo) :
    (s.submitAll rs).reader x = s.reader x := by
  obtain ⟨_, _, _, h⟩ := State.submitAll_form rs s; rw [h]; rfl

@[simp] theorem State.submitAll_pairing (s : State) (rs : List Report) (x : DoorNo) :
    (s.submitAll rs).pairing x = s.pairing x := by
  obtain ⟨_, _, _, h⟩ := State.submitAll_form rs s; rw [h]; rfl

end Sys2Proof.Machine
end

