-- ==== Sys2Proof/Laws/Engine.lean ====
section
/-! SUPPORT. What the blocks that decide, pair, count and drive doors can touch, said once: records, doors,
rooms, readers, pairing records and permit counts. A property that these single updates keep is kept by every
operation of those blocks (`Engine`), and, when it is kept by input updates too, by those of the input
conditioner (`Engine.scanInput` and its neighbours). -/

namespace Sys2Proof.Machine

/-- A property that every single update of the deciding blocks keeps. -/
structure Engine (P : State → Prop) : Prop where
  submit : ∀ s r, P s → P (s.submit r)
  door : ∀ s k d, P s → P (s.setDoor k d)
  room : ∀ s r x, P s → P (s.setRoom r x)
  reader : ∀ s a x, P s → P (s.setReader a x)
  pairing : ∀ s k p, P s → P (s.setPairing k p)
  permits : ∀ s table, P s → P { s with permits := table }

/-- A fold keeps a property that each of its steps keeps. -/
theorem foldl_keeps {σ α : Type} {P : σ → Prop} {f : σ → α → σ} (hf : ∀ s a, P s → P (f s a)) (l : List α) :
    ∀ s, P s → P (l.foldl f s) := by
  induction l with
  | nil => exact fun s h => h
  | cons a l ih => exact fun s h => ih _ (hf s a h)

namespace Engine

variable {P : State → Prop} {s : State} (e : Engine P)

include e

theorem submitAll (rs : List Report) (h : P s) : P (s.submitAll rs) :=
  foldl_keeps (fun s r => e.submit s r) rs s h

theorem modifyDoor (k : DoorNo) (f : DoorChannel → DoorChannel) (h : P s) : P (s.modifyDoor k f) :=
  e.door _ _ _ h

theorem modifyRoom (r : RoomNo) (f : Room → Room) (h : P s) : P (s.modifyRoom r f) := e.room _ _ _ h

theorem modifyReader (a : ReaderNo) (f : Reader → Reader) (h : P s) : P (s.modifyReader a f) :=
  e.reader _ _ _ h

theorem raiseCount (n : Nat) (h : P s) : P (s.raiseCount n) := e.permits _ _ h

theorem returnCount (n : Nat) (c : Credential) (w : Nat) (h : P s) : P (s.returnCount n c w) :=
  e.permits _ _ h

theorem zeroCounts (h : P s) : P s.zeroCounts := e.permits _ _ h

/-! ## Occupancy -/

theorem supervise (r : RoomNo) (h : P s) : P (s.supervise r) := by
  unfold State.supervise
  dsimp only
  split
  · exact e.submit _ _ (e.room _ _ _ h)
  · exact e.submit _ _ (e.room _ _ _ h)
  · exact h

theorem superviseAll (rs : List RoomNo) (h : P s) : P (s.superviseAll rs) :=
  foldl_keeps (fun _ r h => e.supervise r h) rs s h

theorem placeEntry (r : RoomNo) (x : Entry) (h : P s) : P (s.placeEntry r x) := e.modifyRoom _ _ h

theorem changeEntry (r : RoomNo) (c : Credential) (f : Entry → Entry) (h : P s) : P (s.changeEntry r c f) :=
  e.modifyRoom _ _ h

theorem addReference (k : DoorNo) (c : Credential) (h : P s) : P (s.addReference k c) := e.modifyDoor _ _ h

theorem withdrawReference (k : DoorNo) (c : Credential) (h : P s) : P (s.withdrawReference k c) :=
  e.modifyDoor _ _ h

theorem clearReferences (k : DoorNo) (h : P s) : P (s.clearReferences k) := e.modifyDoor _ _ h

theorem dropEntry (r : RoomNo) (x : Entry) (h : P s) : P (s.dropEntry r x) := by
  unfold State.dropEntry
  dsimp only
  split
  · exact e.withdrawReference _ _ (e.modifyRoom _ _ h)
  · exact e.modifyRoom _ _ h

theorem removeEntry (kind : RecordKind) (r : RoomNo) (x : Entry) (h : P s) : P (s.removeEntry kind r x) :=
  e.submit _ _ (e.dropEntry _ _ h)

theorem notEntered (r : RoomNo) (x : Entry) (h : P s) : P (s.notEntered r x) :=
  e.returnCount _ _ _ (e.removeEntry _ _ _ h)

theorem dropReference (k : DoorNo) (c : Credential) (h : P s) : P (s.dropReference k c) := by
  unfold State.dropReference
  split
  · exact e.notEntered _ _ h
  · exact h

theorem dropReferences (k : DoorNo) (h : P s) : P (s.dropReferences k) :=
  e.superviseAll _ (e.clearReferences _ (foldl_keeps (fun _ c h => e.dropReference k c h) _ s h))

theorem confirmReference (k : DoorNo) (c : Credential) (h : P s) : P (s.confirmReference k c) := by
  unfold State.confirmReference
  split
  · exact e.changeEntry _ _ _ h
  · exact h

theorem confirmReferences (k : DoorNo) (h : P s) : P (s.confirmReferences k) :=
  e.superviseAll _ (e.clearReferences _ (foldl_keeps (fun _ c h => e.confirmReference k c h) _ s h))

theorem overstayRoom (a : Nat) (r : RoomNo) (h : P s) : P (s.overstayRoom a r) :=
  e.submitAll _ (e.modifyRoom _ _ h)

theorem minuteSignal (reading : Clock) (h : P s) : P (s.minuteSignal reading) := by
  unfold State.minuteSignal
  split
  · exact foldl_keeps (fun _ r h => e.overstayRoom _ r h) _ s h
  · exact h

theorem clearEntry (r : RoomNo) (x : Entry) (h : P s) : P (s.clearEntry r x) :=
  e.submit _ _ (e.dropEntry _ _ h)

/-! ## Readers -/

theorem post (a : ReaderNo) (ind : Indication) (h : P s) : P (s.post a ind) := by
  unfold State.post
  split
  · exact e.modifyReader _ _ h
  · exact e.modifyReader _ _ h
  · exact h

theorem postAtDoor (k : DoorNo) (ind : Indication) (h : P s) : P (s.postAtDoor k ind) := by
  unfold State.postAtDoor
  split
  · exact e.post _ _ h
  · exact h

theorem readerMissed (a : ReaderNo) (h : P s) : P (s.readerMissed a) := by
  unfold State.readerMissed
  dsimp only
  split
  · exact e.submit _ _ (e.reader _ _ _ h)
  · exact e.reader _ _ _ h

theorem readerHeard (a : ReaderNo) (h : P s) : P (s.readerHeard a) := by
  unfold State.readerHeard
  dsimp only
  split
  · exact e.submit _ _ (e.reader _ _ _ h)
  · exact e.reader _ _ _ h

theorem readerTamper (a : ReaderNo) (tamper : Option Bool) (h : P s) : P (s.readerTamper a tamper) := by
  unfold State.readerTamper
  split
  · exact h
  · split
    · exact h
    · dsimp only
      split
      · exact e.submit _ _ (e.modifyReader _ _ h)
      · exact e.submit _ _ (e.modifyReader _ _ h)

theorem forgetReassigned (old : State) (a : ReaderNo) (h : P s) : P (State.forgetReassigned old s a) := by
  unfold State.forgetReassigned
  split
  · exact h
  · exact e.modifyReader _ _ h

/-! ## Pairing records -/

theorem denyMembers (k : DoorNo) (reason : Reason) (h : P s) : P (s.denyMembers k reason) := by
  unfold State.denyMembers
  split
  · exact h
  · exact e.pairing _ _ _ (e.submitAll _ h)

theorem cancelPairing (k : DoorNo) (h : P s) : P (s.cancelPairing k) := by
  unfold State.cancelPairing
  split
  · exact h
  · exact e.postAtDoor _ _ (e.denyMembers _ _ h)

theorem withdrawMember (c : Credential) (h : P s) : P (s.withdrawMember c) := by
  unfold State.withdrawMember
  split
  · exact h
  · exact e.submit _ _ (e.pairing _ _ _ h)

theorem revokeMember (c : Credential) (h : P s) : P (s.revokeMember c) := by
  unfold State.revokeMember
  split
  · exact h
  · exact e.submit _ _ (e.pairing _ _ _ h)

/-! ## Doors -/

theorem requestRelease (k : DoorNo) (n : Nat) (h : P s) : P (s.requestRelease k n).2 := e.door _ _ _ h

theorem openAuthorised (k : DoorNo) (h : P s) : P (s.openAuthorised k) :=
  e.modifyDoor _ _ (e.confirmReferences _ h)

theorem doorOpens (k : DoorNo) (h : P s) : P (s.doorOpens k) := by
  unfold State.doorOpens
  split
  · exact e.submit _ _ (e.modifyDoor _ _ h)
  · exact e.openAuthorised _ h
  · exact h
  · exact h
  · exact h
  · exact h

theorem doorCloses (k : DoorNo) (h : P s) : P (s.doorCloses k) := e.submitAll _ (e.modifyDoor _ _ h)

theorem firstLevel (k : DoorNo) (level : Level) (h : P s) : P (s.firstLevel k level) := by
  unfold State.firstLevel
  dsimp only
  split
  · refine e.modifyDoor _ _ ?_
    split
    · exact e.confirmReferences _ h
    · exact h
  · refine e.modifyDoor _ _ ?_
    split
    · exact e.confirmReferences _ h
    · exact h
  · exact h

theorem rexPressed (k : DoorNo) (h : P s) : P (s.rexPressed k) := by
  unfold State.rexPressed
  dsimp only
  split
  · exact h
  · split
    · exact e.requestRelease _ _ (e.modifyDoor _ _ h)
    · exact e.modifyDoor _ _ h

theorem settleDoor (k : DoorNo) (h : P s) : P (s.settleDoor k) := e.modifyDoor _ _ h

theorem enterLockdown (k : DoorNo) (h : P s) : P (s.enterLockdown k) :=
  e.modifyDoor _ _ (e.dropReferences _ (e.cancelPairing _ h))

theorem leaveService (k : DoorNo) (h : P s) : P (s.leaveService k) :=
  e.submitAll _ (e.modifyDoor _ _ (e.dropReferences _ (e.cancelPairing _ h)))

theorem enterMode (mode : DoorMode) (k : DoorNo) (h : P s) : P (s.enterMode mode k) := by
  cases mode
  · exact h
  · exact e.enterLockdown _ h
  · exact e.leaveService _ h

theorem setMode (mode : DoorMode) (k : DoorNo) (h : P s) : P (s.setMode mode k) := by
  unfold State.setMode
  dsimp only
  split
  · exact h
  · have changed := e.submit _ (s.doorReport .doorModeChanged k
      (some ((s.door k).mode.number * 10 + mode.number))) (e.modifyDoor k (fun d => { d with mode := mode }) h)
    have entered := e.enterMode mode k changed
    split
    · exact e.settleDoor _ entered
    · exact entered

theorem cancelAllPairings (h : P s) : P s.cancelAllPairings :=
  foldl_keeps (fun _ k h => e.cancelPairing k h) _ s h

theorem denyAllPairings (h : P s) : P s.denyAllPairings :=
  foldl_keeps (fun _ k h => e.denyMembers k _ h) _ s h

theorem dropAllReferences (h : P s) : P s.dropAllReferences :=
  foldl_keeps (fun _ k h => e.dropReferences k h) _ s h

theorem stopDoor (k : DoorNo) (h : P s) : P (s.stopDoor k) := e.submitAll _ (e.modifyDoor _ _ h)

theorem stopDoors (h : P s) : P s.stopDoors := foldl_keeps (fun _ k h => e.stopDoor k h) _ s h

/-! ## Revocation -/

theorem revokeEntry (c : Credential) (h : P s) : P (s.revokeEntry c).2 := by
  unfold State.revokeEntry
  split
  · exact h
  · split
    · exact e.supervise _ (e.modifyDoor _ _ (e.notEntered _ _ h))
    · split
      · exact h
      · exact e.submit _ _ (e.changeEntry _ _ _ h)

/-! ## The entry decision -/

theorem deny (k : DoorNo) (a : ReaderNo) (c : Credential) (reason : Reason) (permit : Option (Nat × Nat))
    (h : P s) : P (s.deny k a c reason permit) :=
  e.post _ _ (e.submit _ _ h)

theorem regrant (k : DoorNo) (a : ReaderNo) (x : Entry) (h : P s) : P (s.regrant k a x) :=
  e.post _ _ (e.submit _ _ (e.modifyDoor _ _ h))

theorem removeOldEntry (k : DoorNo) (r : RoomNo) (x : Entry) (h : P s) : P (s.removeOldEntry k r x) := by
  unfold State.removeOldEntry
  split
  · exact e.notEntered _ _ h
  · split
    · exact e.returnCount _ _ _ (e.removeEntry _ _ _ h)
    · exact e.removeEntry _ _ _ h

theorem placeGranted (k : DoorNo) (c : Credential) (q : Qualifying) (reading : Clock) (atOnce : Bool)
    (h : P s) : P (s.placeGranted k c q reading atOnce) := by
  unfold State.placeGranted
  dsimp only
  split
  · exact e.placeEntry _ _ h
  · exact e.addReference _ _ (e.placeEntry _ _ h)

theorem applyGrant (k : DoorNo) (a : ReaderNo) (c : Credential) (q : Qualifying) (reading : Clock)
    (atOnce : Bool) (h : P s) : P (s.applyGrant k a c q reading atOnce) := by
  unfold State.applyGrant
  dsimp only
  refine e.submit _ _ (e.raiseCount _ ?_)
  split
  · exact e.changeEntry _ _ _ h
  · split
    · exact e.placeGranted _ _ _ _ _ (e.removeOldEntry _ _ _ h)
    · exact e.placeGranted _ _ _ _ _ h

theorem grantSingle (k : DoorNo) (a : ReaderNo) (c : Credential) (q : Qualifying) (n : Nat)
    (reading : Clock) (h : P s) : P (s.grantSingle k a c q n reading) := by
  have taken := e.requestRelease k n h
  unfold State.grantSingle
  split
  · exact e.deny _ _ _ _ _ h
  · rename_i hr
    rw [hr] at taken
    exact e.superviseAll _ (e.post _ _ (e.applyGrant _ _ _ _ _ _ (e.withdrawMember _ taken)))

theorem wait (x : Arrival) (n : Nat) (h : P s) : P (s.wait x n) := e.post _ _ (e.submit _ _ h)

theorem enterRecord (x : Arrival) (p : PairingRecord) (displaced : Option Member) (h : P s) :
    P (s.enterRecord x p displaced) := by
  have entered := e.pairing _ x.door (some p) (e.withdrawMember x.credential h)
  unfold State.enterRecord
  dsimp only
  refine e.wait _ _ ?_
  split
  · exact entered
  · exact e.submit _ _ entered

theorem denyGroup (x : Arrival) (reason : Reason) (members : List (Credential × Option (Nat × Nat)))
    (h : P s) : P (s.denyGroup x reason members) :=
  e.post _ _ (e.pairing _ _ _ (e.submitAll _ h))

theorem applyGroup (x : Arrival) (group : List GroupMember) (atOnce : Bool) (h : P s) :
    P (s.applyGroup x group atOnce) :=
  foldl_keeps (fun _ _ h => e.applyGrant _ _ _ _ _ _ h) _ s h

theorem grantGroup (x : Arrival) (group : List GroupMember) (h : P s) : P (s.grantGroup x group) := by
  have taken := e.requestRelease x.door
    (group.countP fun m => !s.holdsConfirmed (s.roomOf x.door) m.credential) h
  unfold State.grantGroup
  dsimp only
  split
  · exact e.denyGroup _ _ _ h
  · rename_i hr
    rw [hr] at taken
    have closed := e.pairing _ x.door none taken
    have withdrawn := foldl_keeps (f := fun (s : State) (m : GroupMember) => s.withdrawMember m.credential)
      (fun _ m h => e.withdrawMember m.credential h) group _ closed
    exact e.superviseAll _ (e.post _ _ (e.applyGroup _ _ _ withdrawn))

theorem judgeGroup (x : Arrival) (group : List GroupMember) (h : P s) : P (s.judgeGroup x group) := by
  unfold State.judgeGroup
  dsimp only
  split
  · exact e.denyGroup _ _ _ h
  · exact e.grantGroup _ _ h

theorem completeWith (x : Arrival) (escort : GroupMember) (held : List Member)
    (arriving : List GroupMember) (h : P s) : P (s.completeWith x escort held arriving) := by
  unfold State.completeWith
  dsimp only
  split
  · exact e.enterRecord _ _ _ (e.submitAll _ h)
  · exact e.judgeGroup _ _ (e.submitAll _ h)

theorem complete (x : Arrival) (p : PairingRecord) (h : P s) : P (s.complete x p) := by
  unfold State.complete
  split
  · exact e.completeWith _ _ _ _ h
  · split
    · exact e.denyGroup _ _ _ h
    · exact e.completeWith _ _ _ _ h

theorem arrive (x : Arrival) (h : P s) : P (s.arrive x) := by
  unfold State.arrive
  split
  · unfold State.openRecord
    split
    · exact e.deny _ _ _ _ _ h
    · split <;> exact e.enterRecord _ _ _ h
  · split
    · exact e.wait _ _ h
    · unfold State.joinRecord
      split
      · split
        · exact e.enterRecord _ _ _ h
        · exact e.deny _ _ _ _ _ h
      · exact e.enterRecord _ _ _ h
      · exact e.complete _ _ h
      · exact e.complete _ _ h

theorem stage5 (x : Arrival) (h : P s) : P (s.stage5 x) := by
  unfold State.stage5
  dsimp only
  split
  · exact e.grantSingle _ _ _ _ _ _ h
  · exact e.arrive _ h
  · split
    · exact e.grantSingle _ _ _ _ _ _ h
    · exact e.arrive _ h

theorem decideRoom (x : Arrival) (h : P s) : P (s.decideRoom x) := by
  unfold State.decideRoom
  split
  · exact e.deny _ _ _ _ _ h
  · exact e.regrant _ _ _ h
  · exact e.grantSingle _ _ _ _ _ _ h
  · exact e.stage5 _ h

theorem entryPresentation (k : DoorNo) (a : ReaderNo) (c : Credential) (h : P s) :
    P (s.entryPresentation k a c) := by
  unfold State.entryPresentation
  split
  · exact e.deny _ _ _ _ _ h
  · split
    · exact e.deny _ _ _ _ _ h
    · split
      · exact e.deny _ _ _ _ _ h
      · exact e.decideRoom _ h

theorem exitPresentation (k : DoorNo) (a : ReaderNo) (c : Credential) (h : P s) :
    P (s.exitPresentation k a c) := by
  have removal : P (s.exitRemoval k a c) := by
    unfold State.exitRemoval
    dsimp only
    split
    · exact e.supervise _ (e.submit _ _ (e.dropEntry _ _ h))
    · exact e.submit _ _ h
  unfold State.exitPresentation
  dsimp only
  split
  · exact e.requestRelease _ _ (e.post _ _ removal)
  · exact e.post _ _ removal

theorem present (a : ReaderNo) (c : Credential) (h : P s) : P (s.present a c) := by
  unfold State.present
  split
  · exact e.entryPresentation _ _ _ h
  · exact e.exitPresentation _ _ _ h
  · exact e.post _ _ (e.submit _ _ h)

theorem actOnReply (a : ReaderNo) (reply : ReplyKind) (h : P s) : P (s.actOnReply a reply) := by
  unfold State.actOnReply
  split
  · exact h
  · exact e.readerMissed _ h
  · unfold State.goodReply
    dsimp only
    have heard := fun t => e.readerTamper a t (e.readerHeard a h)
    split
    · unfold State.readCredential
      split
      · exact heard _
      · exact e.present _ _ (e.modifyReader _ _ (heard _))
    · exact heard _

/-! ## Inputs -/

section
variable (hi : ∀ s i x, P s → P (State.setInput s i x))
include hi

theorem acceptLevel (i : InputNo) (level : Level) (h : P s) : P (s.acceptLevel i level) := by
  have moved : P (s.modifyInput i fun x => { x with level := level }) := hi _ _ _ h
  unfold State.acceptLevel State.handOver
  dsimp only
  split
  · split
    · exact e.doorOpens _ moved
    · exact e.doorCloses _ moved
    · exact e.firstLevel _ _ moved
    · exact e.firstLevel _ _ moved
    · exact moved
  · split
    · exact e.rexPressed _ moved
    · exact moved

theorem startSteady (i : InputNo) (h : P s) : P (s.startSteady i) := by
  unfold State.startSteady
  split
  · exact hi _ _ _ h
  · exact e.acceptLevel hi _ _ (hi _ _ _ h)

theorem contactMoved (i : InputNo) (h : P s) : P (s.contactMoved i) := by
  unfold State.contactMoved
  split
  · exact hi _ _ _ h
  · exact e.startSteady hi _ h

theorem acceptClass (i : InputNo) (c : LineClass) (h : P s) : P (s.acceptClass i c) := by
  have read := e.submitAll (s.faultReports i (s.input i).fault c.fault)
    (hi s i { s.input i with accepted := some c, fault := c.fault } h)
  unfold State.acceptClass
  dsimp only
  split
  · exact e.acceptLevel hi _ _ read
  · exact read

theorem scanInput (values : Vector (BitVec 10) 32) (i : InputNo) (h : P s) : P (s.scanInput values i) := by
  unfold State.scanInput
  split
  · exact h
  · dsimp only
    split
    · exact e.acceptClass hi _ _ (hi _ _ _ h)
    · exact hi _ _ _ h

theorem resetInputs (h : P s) : P s.resetInputs :=
  foldl_keeps (fun _ _ h => e.submitAll _ (hi _ _ _ h)) _ s h

theorem beginInput (i : InputNo) (h : P s) : P (s.beginInput i) := by
  unfold State.beginInput
  split
  · exact e.startSteady hi _ h
  · exact h

theorem beginInputs (h : P s) : P s.beginInputs := foldl_keeps (fun _ i h => e.beginInput hi i h) _ s h

theorem configureInput (i : InputNo) (mode : InputMode) (polarity : Polarity) (h : P s) :
    P (s.configureInput i mode polarity) := by
  unfold State.configureInput
  dsimp only
  split
  · exact h
  · exact e.beginInput hi _ (e.submitAll _ (hi _ _ _ h))

end

end Engine

end Sys2Proof.Machine
end

