-- ==== Sys2Proof/Laws/PerInstr.lean ====
section
/-! SUPPORT. The family `Framing`, one lemma for each command: a well-formed command that is a request of the
kind-code table is the row of its kind, under a code that names that kind and no other, with a payload that a
frame can carry (R177, R178). It speaks of the commands as they are written, not of what they do. -/

namespace Sys2Proof.Laws

/-- Each kind is found again under its code (R178). -/
theorem kindOfCode_code (k : RequestKind) : kindOfCode k.code = some k := by
  cases k <;> rfl

/-- What the family says of a command. -/
def Framing.Statement (i : Instr) : Prop :=
  i.wf = true → ∀ k r, i.request = some (k, r) →
    k.command r = i ∧ kindOfCode k.code = some k ∧ r.payload.length ≤ 240

/-- A command that is no request satisfies the statement. -/
theorem framing_of_none {i : Instr} (h : i.request = none) : Framing.Statement i := by
  intro _ k r hr
  rw [h] at hr
  cases hr

/-- A request of a kind satisfies the statement, since its well-formedness is that its payload fits. -/
theorem framing_of_kind {i : Instr} {k : RequestKind} {r : Req} (hc : k.command r = i)
    (hr : i.request = some (k, r)) (hw : i.wf = r.fits) : Framing.Statement i := by
  intro wf k' r' hr'
  rw [hr] at hr'
  cases hr'
  exact ⟨hc, kindOfCode_code k, by simpa [hw, Req.fits] using wf⟩

theorem Framing.powerOn (straps : Byte) (closed : BitVec 32) :
    Framing.Statement (.powerOn straps closed) := framing_of_none rfl

theorem Framing.resetPin (straps : Byte) :
    Framing.Statement (.resetPin straps) := framing_of_none rfl

theorem Framing.resetPinRelease :
    Framing.Statement (.resetPinRelease) := framing_of_none rfl

theorem Framing.secondTick :
    Framing.Statement (.secondTick) := framing_of_none rfl

theorem Framing.frameDiscarded (frame : List Byte) :
    Framing.Statement (.frameDiscarded frame) := framing_of_none rfl

theorem Framing.unknownKind (kind : Byte) (req : Req) :
    Framing.Statement (.unknownKind kind req) := framing_of_none rfl

theorem Framing.responseSent (straps : Byte) :
    Framing.Statement (.responseSent straps) := framing_of_none rfl

theorem Framing.silenceTimeout :
    Framing.Statement (.silenceTimeout) := framing_of_none rfl

theorem Framing.readStatus (req : Req) : Framing.Statement (.readStatus req) :=
  framing_of_kind rfl rfl rfl

theorem Framing.readSettings (req : Req) : Framing.Statement (.readSettings req) :=
  framing_of_kind rfl rfl rfl

theorem Framing.setController (req : Req) : Framing.Statement (.setController req) :=
  framing_of_kind rfl rfl rfl

theorem Framing.start (req : Req) : Framing.Statement (.start req) :=
  framing_of_kind rfl rfl rfl

theorem Framing.stop (req : Req) : Framing.Statement (.stop req) :=
  framing_of_kind rfl rfl rfl

theorem Framing.reset (req : Req) : Framing.Statement (.reset req) :=
  framing_of_kind rfl rfl rfl

theorem Framing.setTime (req : Req) : Framing.Statement (.setTime req) :=
  framing_of_kind rfl rfl rfl

theorem Framing.minuteMark (req : Req) : Framing.Statement (.minuteMark req) :=
  framing_of_kind rfl rfl rfl

theorem Framing.readTime (req : Req) : Framing.Statement (.readTime req) :=
  framing_of_kind rfl rfl rfl

theorem Framing.openPermitWindow (req : Req) : Framing.Statement (.openPermitWindow req) :=
  framing_of_kind rfl rfl rfl

theorem Framing.permitRecord (req : Req) : Framing.Statement (.permitRecord req) :=
  framing_of_kind rfl rfl rfl

theorem Framing.readPermit (req : Req) : Framing.Statement (.readPermit req) :=
  framing_of_kind rfl rfl rfl

theorem Framing.suspendPermit (req : Req) : Framing.Statement (.suspendPermit req) :=
  framing_of_kind rfl rfl rfl

theorem Framing.resumePermit (req : Req) : Framing.Statement (.resumePermit req) :=
  framing_of_kind rfl rfl rfl

theorem Framing.writeSchedule (req : Req) : Framing.Statement (.writeSchedule req) :=
  framing_of_kind rfl rfl rfl

theorem Framing.readSchedule (req : Req) : Framing.Statement (.readSchedule req) :=
  framing_of_kind rfl rfl rfl

theorem Framing.addHoliday (req : Req) : Framing.Statement (.addHoliday req) :=
  framing_of_kind rfl rfl rfl

theorem Framing.removeHoliday (req : Req) : Framing.Statement (.removeHoliday req) :=
  framing_of_kind rfl rfl rfl

theorem Framing.clearHolidays (req : Req) : Framing.Statement (.clearHolidays req) :=
  framing_of_kind rfl rfl rfl

theorem Framing.readHolidays (req : Req) : Framing.Statement (.readHolidays req) :=
  framing_of_kind rfl rfl rfl

theorem Framing.revoke (req : Req) : Framing.Statement (.revoke req) :=
  framing_of_kind rfl rfl rfl

theorem Framing.reinstate (req : Req) : Framing.Statement (.reinstate req) :=
  framing_of_kind rfl rfl rfl

theorem Framing.clearFilter (req : Req) : Framing.Statement (.clearFilter req) :=
  framing_of_kind rfl rfl rfl

theorem Framing.checkCredential (req : Req) : Framing.Statement (.checkCredential req) :=
  framing_of_kind rfl rfl rfl

theorem Framing.readRevocations (req : Req) : Framing.Statement (.readRevocations req) :=
  framing_of_kind rfl rfl rfl

theorem Framing.setRoom (req : Req) : Framing.Statement (.setRoom req) :=
  framing_of_kind rfl rfl rfl

theorem Framing.readRoom (req : Req) : Framing.Statement (.readRoom req) :=
  framing_of_kind rfl rfl rfl

theorem Framing.clearOccupant (req : Req) : Framing.Statement (.clearOccupant req) :=
  framing_of_kind rfl rfl rfl

theorem Framing.clearRoom (req : Req) : Framing.Statement (.clearRoom req) :=
  framing_of_kind rfl rfl rfl

theorem Framing.setDoor (req : Req) : Framing.Statement (.setDoor req) :=
  framing_of_kind rfl rfl rfl

theorem Framing.setDoorMode (req : Req) : Framing.Statement (.setDoorMode req) :=
  framing_of_kind rfl rfl rfl

theorem Framing.releaseDoor (req : Req) : Framing.Statement (.releaseDoor req) :=
  framing_of_kind rfl rfl rfl

theorem Framing.silence (req : Req) : Framing.Statement (.silence req) :=
  framing_of_kind rfl rfl rfl

theorem Framing.readDoor (req : Req) : Framing.Statement (.readDoor req) :=
  framing_of_kind rfl rfl rfl

theorem Framing.setInput (req : Req) : Framing.Statement (.setInput req) :=
  framing_of_kind rfl rfl rfl

theorem Framing.readInputs (req : Req) : Framing.Statement (.readInputs req) :=
  framing_of_kind rfl rfl rfl

theorem Framing.readReaders (req : Req) : Framing.Statement (.readReaders req) :=
  framing_of_kind rfl rfl rfl

theorem Framing.collect (req : Req) : Framing.Statement (.collect req) :=
  framing_of_kind rfl rfl rfl

theorem Framing.replyReceived (reply : List Byte) :
    Framing.Statement (.replyReceived reply) := framing_of_none rfl

theorem Framing.replyWindowExpiry :
    Framing.Statement (.replyWindowExpiry) := framing_of_none rfl

theorem Framing.quietIntervalExpiry :
    Framing.Statement (.quietIntervalExpiry) := framing_of_none rfl

theorem Framing.pairingDeadlineExpiry (door : DoorNo) :
    Framing.Statement (.pairingDeadlineExpiry door) := framing_of_none rfl

theorem Framing.releaseTimerExpiry (door : DoorNo) :
    Framing.Statement (.releaseTimerExpiry door) := framing_of_none rfl

theorem Framing.egressTimerExpiry (door : DoorNo) :
    Framing.Statement (.egressTimerExpiry door) := framing_of_none rfl

theorem Framing.openAllowanceExpiry (door : DoorNo) :
    Framing.Statement (.openAllowanceExpiry door) := framing_of_none rfl

theorem Framing.contactChange (input : InputNo) (contact : Contact) :
    Framing.Statement (.contactChange input contact) := framing_of_none rfl

theorem Framing.steadyTimerExpiry (input : InputNo) :
    Framing.Statement (.steadyTimerExpiry input) := framing_of_none rfl

theorem Framing.scannerPass (values : Vector (BitVec 10) 32) :
    Framing.Statement (.scannerPass values) := framing_of_none rfl

theorem Framing.responseStart :
    Framing.Statement (.responseStart) := framing_of_none rfl

end Sys2Proof.Laws
end

