-- ==== Sys2Proof/Laws/Requests.lean ====
section
/-! SUPPORT. What taking a request comes to (R169): one equation for each way it can go, the same for every
kind, and what steps 1 and 2 of R169 leave alone. -/

namespace Sys2Proof.Machine

/-! ## Steps 1 and 2 -/

/-- Everything that steps 1 and 2 can do: the records of the queue, the link, the silence timer and the permit
window, and nothing else. -/
theorem State.heard_form (s : State) :
    ∃ q n l, s.heard =
      { s with
        queue := q
        nextSequence := n
        lost := l
        link := .online
        silence := some (s.now + s.params.silenceTimeout * Config.second)
        window := none } := by
  obtain ⟨q, n, l, h⟩ := s.submit_form { kind := .linkUp }
  cases hl : s.link with
  | online =>
    refine ⟨s.queue, s.nextSequence, s.lost, ?_⟩
    simp [State.heard, State.linkHeard, State.closeWindow, State.after, hl]
  | offline =>
    refine ⟨q, n, l, ?_⟩
    simp [State.heard, State.linkHeard, State.closeWindow, State.after, hl, h]

/-- The same for an addressed PERMIT RECORD, which leaves the permit window as it is. -/
theorem State.linkHeard_form (s : State) :
    ∃ q n l, s.linkHeard =
      { s with
        queue := q
        nextSequence := n
        lost := l
        link := .online
        silence := some (s.now + s.params.silenceTimeout * Config.second) } := by
  obtain ⟨q, n, l, h⟩ := s.submit_form { kind := .linkUp }
  cases hl : s.link with
  | online =>
    refine ⟨s.queue, s.nextSequence, s.lost, ?_⟩
    simp [State.linkHeard, State.after, hl]
  | offline =>
    refine ⟨q, n, l, ?_⟩
    simp [State.linkHeard, State.after, hl, h]

/-! ## What hearing a frame leaves alone -/

@[simp] theorem State.heard_now (s : State) : s.heard.now = s.now := by
  obtain ⟨_, _, _, h⟩ := s.heard_form; rw [h]

@[simp] theorem State.heard_nextTick (s : State) : s.heard.nextTick = s.nextTick := by
  obtain ⟨_, _, _, h⟩ := s.heard_form; rw [h]

@[simp] theorem State.heard_clock (s : State) : s.heard.clock = s.clock := by
  obtain ⟨_, _, _, h⟩ := s.heard_form; rw [h]

@[simp] theorem State.heard_permits (s : State) : s.heard.permits = s.permits := by
  obtain ⟨_, _, _, h⟩ := s.heard_form; rw [h]

@[simp] theorem State.heard_schedules (s : State) : s.heard.schedules = s.schedules := by
  obtain ⟨_, _, _, h⟩ := s.heard_form; rw [h]

@[simp] theorem State.heard_holidays (s : State) : s.heard.holidays = s.holidays := by
  obtain ⟨_, _, _, h⟩ := s.heard_form; rw [h]

@[simp] theorem State.heard_exactList (s : State) : s.heard.exactList = s.exactList := by
  obtain ⟨_, _, _, h⟩ := s.heard_form; rw [h]

@[simp] theorem State.heard_filter (s : State) : s.heard.filter = s.filter := by
  obtain ⟨_, _, _, h⟩ := s.heard_form; rw [h]

@[simp] theorem State.heard_pairings (s : State) : s.heard.pairings = s.pairings := by
  obtain ⟨_, _, _, h⟩ := s.heard_form; rw [h]

@[simp] theorem State.heard_rooms (s : State) : s.heard.rooms = s.rooms := by
  obtain ⟨_, _, _, h⟩ := s.heard_form; rw [h]

@[simp] theorem State.heard_doors (s : State) : s.heard.doors = s.doors := by
  obtain ⟨_, _, _, h⟩ := s.heard_form; rw [h]

@[simp] theorem State.heard_inputs (s : State) : s.heard.inputs = s.inputs := by
  obtain ⟨_, _, _, h⟩ := s.heard_form; rw [h]

@[simp] theorem State.heard_scanDue (s : State) : s.heard.scanDue = s.scanDue := by
  obtain ⟨_, _, _, h⟩ := s.heard_form; rw [h]

@[simp] theorem State.heard_readers (s : State) : s.heard.readers = s.readers := by
  obtain ⟨_, _, _, h⟩ := s.heard_form; rw [h]

@[simp] theorem State.heard_round (s : State) : s.heard.round = s.round := by
  obtain ⟨_, _, _, h⟩ := s.heard_form; rw [h]

@[simp] theorem State.heard_lastPolled (s : State) : s.heard.lastPolled = s.lastPolled := by
  obtain ⟨_, _, _, h⟩ := s.heard_form; rw [h]

@[simp] theorem State.heard_roundReaders (s : State) : s.heard.roundReaders = s.roundReaders := by
  obtain ⟨_, _, _, h⟩ := s.heard_form; rw [h]

@[simp] theorem State.heard_loop (s : State) : s.heard.loop = s.loop := by
  obtain ⟨_, _, _, h⟩ := s.heard_form; rw [h]

@[simp] theorem State.heard_station (s : State) : s.heard.station = s.station := by
  obtain ⟨_, _, _, h⟩ := s.heard_form; rw [h]

@[simp] theorem State.heard_run (s : State) : s.heard.run = s.run := by
  obtain ⟨_, _, _, h⟩ := s.heard_form; rw [h]

@[simp] theorem State.heard_sending (s : State) : s.heard.sending = s.sending := by
  obtain ⟨_, _, _, h⟩ := s.heard_form; rw [h]

@[simp] theorem State.heard_responses (s : State) : s.heard.responses = s.responses := by
  obtain ⟨_, _, _, h⟩ := s.heard_form; rw [h]

@[simp] theorem State.heard_params (s : State) : s.heard.params = s.params := by
  obtain ⟨_, _, _, h⟩ := s.heard_form; rw [h]

@[simp] theorem State.heard_pinHeld (s : State) : s.heard.pinHeld = s.pinHeld := by
  obtain ⟨_, _, _, h⟩ := s.heard_form; rw [h]

@[simp] theorem State.heard_pending (s : State) : s.heard.pending = s.pending := by
  obtain ⟨_, _, _, h⟩ := s.heard_form; rw [h]

@[simp] theorem State.heard_door (s : State) (x : DoorNo) : s.heard.door x = s.door x := by
  obtain ⟨_, _, _, h⟩ := s.heard_form; rw [h]; rfl

@[simp] theorem State.heard_room (s : State) (x : RoomNo) : s.heard.room x = s.room x := by
  obtain ⟨_, _, _, h⟩ := s.heard_form; rw [h]; rfl

@[simp] theorem State.heard_input (s : State) (x : InputNo) : s.heard.input x = s.input x := by
  obtain ⟨_, _, _, h⟩ := s.heard_form; rw [h]; rfl

@[simp] theorem State.heard_reader (s : State) (x : ReaderNo) : s.heard.reader x = s.reader x := by
  obtain ⟨_, _, _, h⟩ := s.heard_form; rw [h]; rfl

@[simp] theorem State.heard_pairing (s : State) (x : DoorNo) : s.heard.pairing x = s.pairing x := by
  obtain ⟨_, _, _, h⟩ := s.heard_form; rw [h]; rfl

@[simp] theorem State.heard_slot (s : State) (x : Nat) : s.heard.slot x = s.slot x := by
  obtain ⟨_, _, _, h⟩ := s.heard_form; rw [h]; rfl

@[simp] theorem State.heard_roomOf (s : State) (x : DoorNo) : s.heard.roomOf x = s.roomOf x := by
  obtain ⟨_, _, _, h⟩ := s.heard_form; rw [h]; rfl

@[simp] theorem State.heard_findEntry (s : State) (x : Credential) : s.heard.findEntry x = s.findEntry x := by
  obtain ⟨_, _, _, h⟩ := s.heard_form; rw [h]; rfl

@[simp] theorem State.heard_membership (s : State) (x : Credential) : s.heard.membership x = s.membership x := by
  obtain ⟨_, _, _, h⟩ := s.heard_form; rw [h]; rfl

@[simp] theorem State.heard_positionSet (s : State) (x : Nat) : s.heard.positionSet x = s.positionSet x := by
  obtain ⟨_, _, _, h⟩ := s.heard_form; rw [h]; rfl

@[simp] theorem State.heard_schedule (s : State) (x : Nat) : s.heard.schedule x = s.schedule x := by
  obtain ⟨_, _, _, h⟩ := s.heard_form; rw [h]; rfl

@[simp] theorem State.heard_revocation (s : State) (x : Credential) : s.heard.revocation x = s.revocation x := by
  obtain ⟨_, _, _, h⟩ := s.heard_form; rw [h]; rfl

@[simp] theorem State.linkHeard_now (s : State) : s.linkHeard.now = s.now := by
  obtain ⟨_, _, _, h⟩ := s.linkHeard_form; rw [h]

@[simp] theorem State.linkHeard_nextTick (s : State) : s.linkHeard.nextTick = s.nextTick := by
  obtain ⟨_, _, _, h⟩ := s.linkHeard_form; rw [h]

@[simp] theorem State.linkHeard_clock (s : State) : s.linkHeard.clock = s.clock := by
  obtain ⟨_, _, _, h⟩ := s.linkHeard_form; rw [h]

@[simp] theorem State.linkHeard_permits (s : State) : s.linkHeard.permits = s.permits := by
  obtain ⟨_, _, _, h⟩ := s.linkHeard_form; rw [h]

@[simp] theorem State.linkHeard_schedules (s : State) : s.linkHeard.schedules = s.schedules := by
  obtain ⟨_, _, _, h⟩ := s.linkHeard_form; rw [h]

@[simp] theorem State.linkHeard_holidays (s : State) : s.linkHeard.holidays = s.holidays := by
  obtain ⟨_, _, _, h⟩ := s.linkHeard_form; rw [h]

@[simp] theorem State.linkHeard_exactList (s : State) : s.linkHeard.exactList = s.exactList := by
  obtain ⟨_, _, _, h⟩ := s.linkHeard_form; rw [h]

@[simp] theorem State.linkHeard_filter (s : State) : s.linkHeard.filter = s.filter := by
  obtain ⟨_, _, _, h⟩ := s.linkHeard_form; rw [h]

@[simp] theorem State.linkHeard_pairings (s : State) : s.linkHeard.pairings = s.pairings := by
  obtain ⟨_, _, _, h⟩ := s.linkHeard_form; rw [h]

@[simp] theorem State.linkHeard_rooms (s : State) : s.linkHeard.rooms = s.rooms := by
  obtain ⟨_, _, _, h⟩ := s.linkHeard_form; rw [h]

@[simp] theorem State.linkHeard_doors (s : State) : s.linkHeard.doors = s.doors := by
  obtain ⟨_, _, _, h⟩ := s.linkHeard_form; rw [h]

@[simp] theorem State.linkHeard_inputs (s : State) : s.linkHeard.inputs = s.inputs := by
  obtain ⟨_, _, _, h⟩ := s.linkHeard_form; rw [h]

@[simp] theorem State.linkHeard_scanDue (s : State) : s.linkHeard.scanDue = s.scanDue := by
  obtain ⟨_, _, _, h⟩ := s.linkHeard_form; rw [h]

@[simp] theorem State.linkHeard_readers (s : State) : s.linkHeard.readers = s.readers := by
  obtain ⟨_, _, _, h⟩ := s.linkHeard_form; rw [h]

@[simp] theorem State.linkHeard_round (s : State) : s.linkHeard.round = s.round := by
  obtain ⟨_, _, _, h⟩ := s.linkHeard_form; rw [h]

@[simp] theorem State.linkHeard_lastPolled (s : State) : s.linkHeard.lastPolled = s.lastPolled := by
  obtain ⟨_, _, _, h⟩ := s.linkHeard_form; rw [h]

@[simp] theorem State.linkHeard_roundReaders (s : State) : s.linkHeard.roundReaders = s.roundReaders := by
  obtain ⟨_, _, _, h⟩ := s.linkHeard_form; rw [h]

@[simp] theorem State.linkHeard_loop (s : State) : s.linkHeard.loop = s.loop := by
  obtain ⟨_, _, _, h⟩ := s.linkHeard_form; rw [h]

@[simp] theorem State.linkHeard_station (s : State) : s.linkHeard.station = s.station := by
  obtain ⟨_, _, _, h⟩ := s.linkHeard_form; rw [h]

@[simp] theorem State.linkHeard_run (s : State) : s.linkHeard.run = s.run := by
  obtain ⟨_, _, _, h⟩ := s.linkHeard_form; rw [h]

@[simp] theorem State.linkHeard_sending (s : State) : s.linkHeard.sending = s.sending := by
  obtain ⟨_, _, _, h⟩ := s.linkHeard_form; rw [h]

@[simp] theorem State.linkHeard_responses (s : State) : s.linkHeard.responses = s.responses := by
  obtain ⟨_, _, _, h⟩ := s.linkHeard_form; rw [h]

@[simp] theorem State.linkHeard_params (s : State) : s.linkHeard.params = s.params := by
  obtain ⟨_, _, _, h⟩ := s.linkHeard_form; rw [h]

@[simp] theorem State.linkHeard_pinHeld (s : State) : s.linkHeard.pinHeld = s.pinHeld := by
  obtain ⟨_, _, _, h⟩ := s.linkHeard_form; rw [h]

@[simp] theorem State.linkHeard_pending (s : State) : s.linkHeard.pending = s.pending := by
  obtain ⟨_, _, _, h⟩ := s.linkHeard_form; rw [h]

@[simp] theorem State.linkHeard_window (s : State) : s.linkHeard.window = s.window := by
  obtain ⟨_, _, _, h⟩ := s.linkHeard_form; rw [h]

@[simp] theorem State.linkHeard_door (s : State) (x : DoorNo) : s.linkHeard.door x = s.door x := by
  obtain ⟨_, _, _, h⟩ := s.linkHeard_form; rw [h]; rfl

@[simp] theorem State.linkHeard_room (s : State) (x : RoomNo) : s.linkHeard.room x = s.room x := by
  obtain ⟨_, _, _, h⟩ := s.linkHeard_form; rw [h]; rfl

@[simp] theorem State.linkHeard_input (s : State) (x : InputNo) : s.linkHeard.input x = s.input x := by
  obtain ⟨_, _, _, h⟩ := s.linkHeard_form; rw [h]; rfl

@[simp] theorem State.linkHeard_reader (s : State) (x : ReaderNo) : s.linkHeard.reader x = s.reader x := by
  obtain ⟨_, _, _, h⟩ := s.linkHeard_form; rw [h]; rfl

@[simp] theorem State.linkHeard_pairing (s : State) (x : DoorNo) : s.linkHeard.pairing x = s.pairing x := by
  obtain ⟨_, _, _, h⟩ := s.linkHeard_form; rw [h]; rfl

@[simp] theorem State.linkHeard_slot (s : State) (x : Nat) : s.linkHeard.slot x = s.slot x := by
  obtain ⟨_, _, _, h⟩ := s.linkHeard_form; rw [h]; rfl

@[simp] theorem State.linkHeard_roomOf (s : State) (x : DoorNo) : s.linkHeard.roomOf x = s.roomOf x := by
  obtain ⟨_, _, _, h⟩ := s.linkHeard_form; rw [h]; rfl

@[simp] theorem State.linkHeard_findEntry (s : State) (x : Credential) : s.linkHeard.findEntry x = s.findEntry x := by
  obtain ⟨_, _, _, h⟩ := s.linkHeard_form; rw [h]; rfl

@[simp] theorem State.linkHeard_membership (s : State) (x : Credential) : s.linkHeard.membership x = s.membership x := by
  obtain ⟨_, _, _, h⟩ := s.linkHeard_form; rw [h]; rfl

@[simp] theorem State.linkHeard_positionSet (s : State) (x : Nat) : s.linkHeard.positionSet x = s.positionSet x := by
  obtain ⟨_, _, _, h⟩ := s.linkHeard_form; rw [h]; rfl

@[simp] theorem State.linkHeard_schedule (s : State) (x : Nat) : s.linkHeard.schedule x = s.schedule x := by
  obtain ⟨_, _, _, h⟩ := s.linkHeard_form; rw [h]; rfl

@[simp] theorem State.linkHeard_revocation (s : State) (x : Credential) : s.linkHeard.revocation x = s.revocation x := by
  obtain ⟨_, _, _, h⟩ := s.linkHeard_form; rw [h]; rfl

@[simp] theorem State.heard_window (s : State) : s.heard.window = none := by
  obtain ⟨_, _, _, h⟩ := s.heard_form; rw [h]

/-! ## The five ways -/

variable {kind : RequestKind} {r : Req} {owner : List Byte → State → Reply × State} {s : State}

/-- A frame that is not received changes nothing. -/
theorem takeRequest_unreceived (h : s.receives r = false) : takeRequest kind r owner s = s := by
  simp [takeRequest, h]

/-- An addressed request of an allowed length is carried out or refused by its owner, and answered. -/
theorem takeRequest_addressed (h : s.addressed r) (hk : kind ≠ .permitRecord)
    (ha : kind.allows r.payload = true) :
    takeRequest kind r owner s =
      (owner r.payload s.heard).2.owing kind.code (owner r.payload s.heard).1.result
        (owner r.payload s.heard).1.data := by
  obtain ⟨hr, hb⟩ := h
  simp [takeRequest, hr, hb, ha, hk, State.takeFrame, State.heard, State.respond, State.owing]

/-- An addressed PERMIT RECORD meets the window as it stands. -/
theorem takeRequest_permitRecord (h : s.addressed r)
    (ha : RequestKind.permitRecord.allows r.payload = true) :
    takeRequest .permitRecord r owner s =
      (owner r.payload s.linkHeard).2.owing RequestKind.permitRecord.code
        (owner r.payload s.linkHeard).1.result (owner r.payload s.linkHeard).1.data := by
  obtain ⟨hr, hb⟩ := h
  simp [takeRequest, hr, hb, ha, State.takeFrame, State.respond, State.owing]

/-- A broadcast that its kind carries out is carried out by its owner, and not answered. -/
theorem takeRequest_broadcast (h : s.broadcasted r) (hc : kind.carriedWhenBroadcast = true)
    (ha : kind.allows r.payload = true) : takeRequest kind r owner s = (owner r.payload s.heard).2 := by
  obtain ⟨hr, hb⟩ := h
  simp [takeRequest, hr, hb, ha, hc, State.takeFrame, State.heard, State.respond]

/-- A broadcast that is not carried out is heard, and nothing else. -/
theorem takeRequest_taken_only (h : s.broadcasted r)
    (hc : kind.carriedWhenBroadcast = false ∨ kind.allows r.payload = false) :
    takeRequest kind r owner s = s.heard := by
  obtain ⟨hr, hb⟩ := h
  cases ha : kind.allows r.payload with
  | false => simp [takeRequest, hr, hb, ha, State.takeFrame, State.heard, State.respond]
  | true =>
    have hc : kind.carriedWhenBroadcast = false := by simpa [ha] using hc
    simp [takeRequest, hr, hb, ha, hc, State.takeFrame, State.heard]

/-- A request taken for any owner: it is one of the owner's states, perhaps with a response, or it is the
state that heard the frame, perhaps with a response, or nothing was received. A property that hearing,
answering and the owner keep is kept. -/
theorem takeRequest_keeps {P : State → Prop} (hheard : ∀ s k, P s → P (State.takeFrame s k))
    (hresp : ∀ s r code reply, P s → P (State.respond s r code reply))
    (howner : ∀ payload s, P s → P (owner payload s).2) (h : P s) : P (takeRequest kind r owner s) := by
  unfold takeRequest
  dsimp only
  split
  · split
    · split
      · exact hheard _ _ h
      · exact hresp _ _ _ _ (howner _ _ (hheard _ _ h))
    · exact hresp _ _ _ _ (hheard _ _ h)
  · exact h

/-! ## Requests as commands -/

/-- Every request is taken in the one way, by the owner of its kind. -/
theorem exec_request (k : RequestKind) (r : Req) (s : State) :
    exec (k.command r) s = .next (takeRequest k r (ownerOf k) s) := by
  cases k <;> rfl

/-- An addressed request, once its owner's answer is known. -/
theorem exec_addressed {k : RequestKind} {r : Req} {s t : State} {reply : Reply} (h : s.addressed r)
    (hk : k ≠ .permitRecord) (ha : k.allows r.payload = true)
    (ho : ownerOf k r.payload s.heard = (reply, t)) :
    exec (k.command r) s = .next (t.owing k.code reply.result reply.data) := by
  rw [exec_request, takeRequest_addressed h hk ha, ho]

/-- An addressed PERMIT RECORD, once its owner's answer is known. -/
theorem exec_permitRecord {r : Req} {s t : State} {reply : Reply} (h : s.addressed r)
    (ha : RequestKind.permitRecord.allows r.payload = true)
    (ho : ownPermitRecord r.payload s.linkHeard = (reply, t)) :
    exec (.permitRecord r) s = .next (t.owing 0x21 reply.result reply.data) := by
  refine congrArg _ ((takeRequest_permitRecord h ha).trans ?_)
  rw [ho]
  rfl

/-- A broadcast that its kind carries out, once its owner's answer is known. -/
theorem exec_broadcast {k : RequestKind} {r : Req} {s t : State} {reply : Reply} (h : s.broadcasted r)
    (hc : k.carriedWhenBroadcast = true) (ha : k.allows r.payload = true)
    (ho : ownerOf k r.payload s.heard = (reply, t)) : exec (k.command r) s = .next t := by
  rw [exec_request, takeRequest_broadcast h hc ha, ho]

end Sys2Proof.Machine
end

