-- ==== Sys2Proof/Laws/Tables.lean ====
section
/-! SUPPORT. The ascending lists and the slot table: what reading after a change gives, and that the changes
keep the ascending order (R1, R21, R109, R110). -/

namespace Sys2Proof.Machine

/-! ## Ascending lists -/

section
variable {α : Type} [LinearOrder α]

theorem mem_insertAscending {a b : α} {l : List α} : b ∈ insertAscending a l ↔ b = a ∨ b ∈ l := by
  induction l with
  | nil => simp [insertAscending]
  | cons x l ih =>
    unfold insertAscending
    split
    · simp
    · split
      · rename_i h; simp [h]
      · simp only [List.mem_cons, ih]; tauto

/-- A value already held leaves an ascending list as it is; another makes it one longer. -/
theorem length_insertAscending {a : α} {l : List α} (hl : l.Pairwise (· < ·)) :
    (insertAscending a l).length = if a ∈ l then l.length else l.length + 1 := by
  induction l with
  | nil => simp [insertAscending]
  | cons x l ih =>
    obtain ⟨hx, hl⟩ := List.pairwise_cons.mp hl
    unfold insertAscending
    split
    · rename_i h
      have hn : a ∉ x :: l := by
        intro hm
        rcases List.mem_cons.mp hm with rfl | hm
        · exact lt_irrefl _ h
        · exact lt_asymm h (hx _ hm)
      simp [hn]
    · split
      · rename_i h; simp [h]
      · rename_i h1 h2
        have : (a ∈ x :: l) ↔ a ∈ l := by simp [h2]
        simp only [List.length_cons, ih hl, this]
        split <;> rfl

theorem pairwise_insertAscending {a : α} {l : List α} (hl : l.Pairwise (· < ·)) :
    (insertAscending a l).Pairwise (· < ·) := by
  induction l with
  | nil => simp [insertAscending]
  | cons x l ih =>
    obtain ⟨hx, hl⟩ := List.pairwise_cons.mp hl
    unfold insertAscending
    split
    · rename_i h
      refine List.pairwise_cons.mpr ⟨fun b hb => ?_, List.pairwise_cons.mpr ⟨hx, hl⟩⟩
      rcases List.mem_cons.mp hb with rfl | hb
      · exact h
      · exact lt_trans h (hx _ hb)
    · split
      · exact List.pairwise_cons.mpr ⟨hx, hl⟩
      · rename_i h1 h2
        refine List.pairwise_cons.mpr ⟨fun b hb => ?_, ih hl⟩
        rcases mem_insertAscending.mp hb with rfl | hb
        · exact lt_of_le_of_ne (not_lt.mp h1) (Ne.symm h2)
        · exact hx _ hb

end

theorem mem_removeFrom {α : Type} [DecidableEq α] {a b : α} {l : List α} :
    b ∈ removeFrom a l ↔ b ∈ l ∧ b ≠ a := by
  simp [removeFrom]

/-! ## The slot table -/

theorem slotAt_putSlot (n m : Nat) (p : PermitSlot) (table : List (Nat × PermitSlot)) :
    slotAt m (putSlot n p table) = if m = n then some p else slotAt m table := by
  induction table with
  | nil => simp [putSlot, slotAt, eq_comm]
  | cons e table ih =>
    obtain ⟨k, q⟩ := e
    unfold putSlot
    split
    · simp only [slotAt]; grind
    · split
      · simp only [slotAt]; grind
      · simp only [slotAt, ih]; grind

theorem slotAt_freeSlot (n m : Nat) (table : List (Nat × PermitSlot)) :
    slotAt m (freeSlot n table) = if m = n then none else slotAt m table := by
  induction table with
  | nil => simp [freeSlot, slotAt]
  | cons e table ih =>
    obtain ⟨k, q⟩ := e
    unfold freeSlot at ih ⊢
    by_cases h : k = n
    · simp only [List.filter_cons, h, ne_eq, not_true_eq_false, decide_false, Bool.false_eq_true, if_false,
        ih, slotAt]
      grind
    · simp only [List.filter_cons, ne_eq, h, not_false_eq_true, decide_true, if_true, slotAt, ih]
      grind

theorem slotAt_changeSlot (n m : Nat) (f : PermitSlot → PermitSlot) (table : List (Nat × PermitSlot)) :
    slotAt m (changeSlot n f table) = if m = n then (slotAt m table).map f else slotAt m table := by
  induction table with
  | nil => simp [changeSlot, slotAt]
  | cons e table ih =>
    obtain ⟨k, q⟩ := e
    unfold changeSlot at ih ⊢
    simp only [List.map_cons]
    split <;> simp only [slotAt, ih] <;> grind

/-- Changing what slots hold leaves the slot numbers as they are. -/
theorem changeSlot_slots (n : Nat) (f : PermitSlot → PermitSlot) (table : List (Nat × PermitSlot)) :
    (changeSlot n f table).map Prod.fst = table.map Prod.fst := by
  simp only [changeSlot, List.map_map]
  exact List.map_congr_left fun e _ => by simp only [Function.comp]; split <;> rfl

theorem mem_putSlot {n : Nat} {p : PermitSlot} {e : Nat × PermitSlot} {table : List (Nat × PermitSlot)}
    (h : e ∈ putSlot n p table) : e = (n, p) ∨ e ∈ table := by
  induction table with
  | nil => simpa [putSlot] using h
  | cons x table ih =>
    obtain ⟨k, q⟩ := x
    unfold putSlot at h
    split at h
    · simpa using h
    · split at h
      · simp only [List.mem_cons] at h ⊢; tauto
      · simp only [List.mem_cons] at h ⊢
        rcases h with h | h
        · exact Or.inr (Or.inl h)
        · rcases ih h with h | h
          · exact Or.inl h
          · exact Or.inr (Or.inr h)

/-- Putting a permit into a slot keeps the slot order. -/
theorem pairwise_putSlot {n : Nat} {p : PermitSlot} {table : List (Nat × PermitSlot)}
    (h : (table.map Prod.fst).Pairwise (· < ·)) : ((putSlot n p table).map Prod.fst).Pairwise (· < ·) := by
  induction table with
  | nil => simp [putSlot]
  | cons x table ih =>
    obtain ⟨k, q⟩ := x
    rw [List.map_cons, List.pairwise_cons] at h
    obtain ⟨hk, ht⟩ := h
    unfold putSlot
    split
    · rename_i hn
      simp only [List.map_cons, List.pairwise_cons]
      refine ⟨fun b hb => ?_, hk, ht⟩
      rcases List.mem_cons.mp hb with rfl | hb
      · exact hn
      · exact lt_trans hn (hk _ hb)
    · split
      · rename_i hn
        subst hn
        simp only [List.map_cons, List.pairwise_cons]
        exact ⟨hk, ht⟩
      · rename_i h1 h2
        simp only [List.map_cons, List.pairwise_cons]
        refine ⟨fun b hb => ?_, ih ht⟩
        obtain ⟨e, he, rfl⟩ := List.mem_map.mp hb
        rcases mem_putSlot he with rfl | he
        · show k < n; omega
        · exact hk _ (List.mem_map_of_mem he)

end Sys2Proof.Machine
end

