-- ==== Sys2Proof/Laws/Terms.lean ====
section
/-! SUPPORT. The small lemmas of the terms in which the statements are made (Sys2Proof/Safety.lean). -/

namespace Sys2Proof.Machine

/-! ## Counts handed back -/

@[simp] theorem handedBack_state (removed : List Entry) (n : Nat) (p : PermitSlot) :
    (handedBack removed n p).state = p.state := rfl

@[simp] theorem handedBack_permit (removed : List Entry) (n : Nat) (p : PermitSlot) :
    (handedBack removed n p).permit = p.permit := rfl

@[simp] theorem handedBack_nil (n : Nat) (p : PermitSlot) : handedBack [] n p = p := by simp [handedBack]

/-- Entries removed in two parts hand back what they hand back together. -/
theorem handedBack_append (l m : List Entry) (n : Nat) (p : PermitSlot) :
    handedBack (l ++ m) n p = handedBack m n (handedBack l n p) := by
  simp [handedBack, List.countP_append, Nat.sub_sub]

/-! ## Supervision -/

/-- The statement's term and the check's own condition agree (R86). -/
theorem State.leftAlone_eq (s : State) (q : RoomNo) : s.leftAlone q = (s.room q).isUnescorted := by
  rw [Bool.eq_iff_iff]
  simp [State.leftAlone, State.confirmedIn, Room.isUnescorted, Entry.confirmedAs, List.countP_pos_iff, List.countP_eq_zero]

/-! ## Presentations -/

theorem State.pairingWithout_none {s : State} {k : DoorNo} (c : Credential) (h : s.pairing k = none) :
    s.pairingWithout c k = none := by simp [State.pairingWithout, h]

end Sys2Proof.Machine
end

