-- ==== Sys2Proof/Tests/Slice0.lean ====
section
/-! SUPPORT. Tests: ill-formed commands that WellFormed refuses; single steps with the results that the manual's
worked sequences and rules give; and, for every statement with hypotheses, a concrete state and operands that
meet them (`witness_<statement>`). -/

namespace Sys2Proof.Tests

open Sys2Proof Sys2Proof.Machine

set_option Elab.async false

/-! ## Helpers -/

/-- An addressed request. -/
def one (payload : List Byte) : Req := ⟨false, payload⟩

/-- A broadcast request. -/
def every (payload : List Byte) : Req := ⟨true, payload⟩

/-- The outcome is a next state that passes a check. -/
def gives (o : Host.Outcome State Fault Refusal) (check : State → Bool) : Bool :=
  match o with
  | .next t => check t
  | .fault _ => false
  | .refused _ => false

/-- The kinds of the queued records. -/
def kinds (t : State) : List RecordKind := t.queue.map fun r => r.report.kind

/-- The detail numbers of the queued records. -/
def details (t : State) : List (Option Nat) := t.queue.map fun r => r.report.detail

/-- The responses owed. -/
def owed (t : State) : List (ResultCode × ResponseData) := t.responses.map fun x => (x.result, x.data)

/-- Credential X of the worked sequences, and an escort. -/
def credX : Credential := 40211007
def credE : Credential := 61002908

/-- A permit of X for rooms 2 and 9. -/
def passX : PermitRecord where
  credential := credX
  role := .contractor
  workOrder := 512300
  rooms := 0x0204
  firstDay := 11390
  lastDay := 11405
  startMinute := none
  endMinute := none
  schedule := 255
  holidayRule := .ignore
  allowance := 2

/-- A permit of the escort for the same rooms. -/
def passE : PermitRecord := { passX with credential := credE, role := .escort, workOrder := 0 }

/-- A door in service. -/
def doorAt (room : RoomNo) (entry exit : ReaderNo) : DoorChannel :=
  { DoorChannel.powerOn with
    settings := { DoorSettings.powerOn with
      inService := true, room := room, entryReader := some entry, exitReader := some exit }
    state := .secure }

/-- A room in use. -/
def roomOf (policy : EntryPolicy) : Room :=
  { Room.powerOn with settings := { RoomSettings.powerOn with inUse := true, policy := policy } }

/-- A running controller at 2031-03-17 14:05:00: door 3 serves room 2 (SINGLE) with readers 5 and 6, door 12
serves room 9 (ESCORTED) with readers 14 and 15, and reader 5 is being polled. -/
def busy : State :=
  { State.reset with
    now := 100000
    nextTick := 101000
    clock := ⟨.set, ⟨31, 3, 17⟩, 14, 5, 0⟩
    permits := [(102, ⟨.active, passX, 0⟩), (1500, ⟨.active, passE, 0⟩)]
    rooms := (State.reset.rooms.set 2 (roomOf .single)).set 9 (roomOf .escorted)
    doors := (State.reset.doors.set 3 (doorAt 2 4 5)).set 12 (doorAt 9 13 14)
    inputs := Vector.ofFn fun i =>
      { InputLine.powerOn i.val (if i.val % 2 = 0 then .closed else .opened) with
        level := .normal, steady := none }
    readers := Vector.replicate 31 { Reader.powerOn with state := .online }
    round := 3
    lastPolled := some 4
    roundReaders := [4, 5, 13, 14]
    loop := .poll 4 none 100015
    scanDue := 100020
    link := .online
    silence := some 160000
    run := .running }

/-- X's entry right after a grant at door 3. -/
def entryX : Entry where
  credential := credX
  role := .contractor
  slot := 102
  workOrder := 512300
  door := 3
  state := .provisional
  granted := some 16413965
  confirmed := none
  entitled := some 16424640
  overstay := false
  revokedInside := false

/-- The running controller with X PROVISIONAL at door 3, whose release runs out at 105,000. -/
def released : State :=
  { busy with
    permits := [(102, ⟨.active, passX, 1⟩), (1500, ⟨.active, passE, 0⟩)]
    rooms := busy.rooms.set 2 { roomOf .single with entries := [entryX] }
    doors := busy.doors.set 3
      { doorAt 2 4 5 with
        state := .released, release := some 105000, provisional := [credX], lock := .energised } }

/-- The running controller with X CONFIRMED in room 2. -/
def inside : State :=
  { busy with
    rooms := busy.rooms.set 2
      { roomOf .single with
        entries := [{ entryX with state := .confirmed, confirmed := some 16413965 }] } }

/-- The member that the escort is once it waits. -/
def memberE : Member := ⟨credE, 1500, 0⟩

/-- The running controller with the escort waiting alone at door 12, whose reader is being polled. -/
def waitingE : State :=
  { busy with
    pairings := busy.pairings.set 12 (some ⟨some memberE, [], 90000, 110000⟩)
    loop := .poll 13 none 100015, lastPolled := some 13 }

/-- The running controller with its timers of door 3 as given, and the door in a state. -/
def doorIs (state : DoorState) (d : DoorChannel → DoorChannel) : State :=
  { busy with doors := busy.doors.set 3 (d { doorAt 2 4 5 with state := state }) }

/-! ## WellFormed refuses ill-formed commands -/

theorem test_wf_payload_too_long : (Instr.setTime (one (List.replicate 241 0))).wf = false := by decide +kernel
theorem test_wf_payload_longest : (Instr.setTime (one (List.replicate 240 0))).wf = true := by decide +kernel
theorem test_wf_unknown_kind_is_known : (Instr.unknownKind 0x70 (one [])).wf = false := by decide +kernel
theorem test_wf_unknown_kind : (Instr.unknownKind 0x71 (one [])).wf = true := by decide +kernel
theorem test_wf_unknown_kind_too_long :
    (Instr.unknownKind 0x71 (one (List.replicate 241 0))).wf = false := by decide +kernel
theorem test_wf_empty_run : (Instr.frameDiscarded []).wf = false := by decide
theorem test_wf_empty_reply : (Instr.replyReceived []).wf = false := by decide

/-! ## Frames -/

/-- The check value of R180. -/
theorem test_crc_digits :
    (crc16 [0x31, 0x32, 0x33, 0x34, 0x35, 0x36, 0x37, 0x38, 0x39] == 0x29B1#16) = true := by
  decide +kernel

/-- A SILENCE frame to station 17 by the layout of R177: length 6, station, kind 53h, channel. -/
theorem test_frame_silence :
    (decodeFrame (.address 17) (withCrc [6, 17, 0x53, 4]) == .silence (one [4])) = true := by
  decide +kernel

/-- The same frame is discarded by station 18 (R168). -/
theorem test_frame_other_station :
    (decodeFrame (.address 18) (withCrc [6, 17, 0x53, 4]) ==
      .frameDiscarded (withCrc [6, 17, 0x53, 4])) = true := by
  decide +kernel

theorem test_frame_broadcast_start :
    gives (exec (.frameDiscarded (withCrc [5, 255, 0x04])) State.reset) (fun t =>
      t.run == .running && t.responses == []) = true := by
  decide +kernel

/-- A response frame by the layout of R177 and the codes of R178: NOT_FOUND to SILENCE from station 17. -/
theorem test_response_frame :
    (State.trunkFrame { busy with
        station := .address 17, sending := true, responses := [⟨0x53, .notFound, .empty⟩] } ==
      some (withCrc [6, 17, 0xD3, 0x0A])) = true := by
  decide +kernel

/-- READ TIME's data at the worked reading of chapter 2, in the order of R34 with the numbers of R177: SET is 0, the
weekday Monday 0. -/
theorem test_time_bytes :
    ((ResponseData.timeReading ⟨busy.clock, 0, 11398, 845, 16413965⟩).bytes ==
      [0, 31, 3, 17, 14, 5, 0, 0, 0x2C, 0x86, 0x03, 0x4D, 0x00, 0xFA, 0x75, 0x0D]) = true := by
  decide +kernel

/-- The numbers of READ DOOR's states by R177: HELD is the fifth of chapter 7.2's table, SILENCED the third of its. -/
theorem test_line_report_bytes :
    (LineReport.bytes (.supervised (some 300) none (some .active) 1) == [1, 44, 4, 1, 1]) = true := by decide +kernel

theorem test_denied_code_is_that_of_the_poll :
    (Indication.bytes (.deny .doorBusy) == [1, (pollOf 4 (some (.deny .doorBusy))).getD 3 0]) = true := by
  decide +kernel

theorem test_silence_bytes : ((ResponseData.silenced .held .silenced).bytes == [4, 2]) = true := by decide +kernel

/-- A poll of reader 5 that carries DENY with the tenth reason of chapter 3.8 (R179). -/
theorem test_poll_frame : (pollOf 4 (some (.deny .wrongRoom)) == withCrc [6, 5, 2, 10]) = true := by
  decide +kernel

/-- A reply of five bytes reports the tamper state and no credential (R179). -/
theorem test_reply_idle :
    (judgeReply 13 (withCrc [5, 14, 1]) == .good (some true) none) = true := by decide +kernel

theorem test_table_has_no_bits : decodeTableWord 16 0 = none := rfl

/-! ## Calendar arithmetic (the worked cases of chapter 2) -/

theorem test_day_number : (Date.dayNumber ⟨31, 3, 17⟩ == 11398 && dateOfDay 11398 == ⟨31, 3, 17⟩) = true := by
  decide +kernel

theorem test_reading_values :
    (busy.clock.weekday == 0 && busy.clock.minuteOfWeek == 845 &&
      busy.clock.absoluteMinute == 16413965 && busy.clock.absoluteSecond == 984837900) = true := by
  decide +kernel

/-- Sunday 22:00 for 480 minutes, at Monday 01:30, 05:59 and 06:00. -/
theorem test_window_across_midnight :
    (WeeklyWindow.remaining ⟨9960, 480⟩ 90 == 270 && WeeklyWindow.remaining ⟨9960, 480⟩ 359 == 1 &&
      !WeeklyWindow.contains ⟨9960, 480⟩ 360 && !WeeklyWindow.contains ⟨9960, 480⟩ 9959) = true := by
  decide +kernel

/-- Overlapping windows are not merged: 16,414,320. -/
theorem test_entitled_overlap :
    (State.entitledUntil
      { busy with schedules := busy.schedules.set 12 [⟨420, 720⟩, ⟨720, 480⟩, ⟨1140, 120⟩] }
      { passX with schedule := 12 } busy.clock == some 16414320) = true := by
  decide +kernel

/-- Credential 305,419,896 has position 593, and so have its two neighbours (chapter 6). -/
theorem test_filter_position :
    (positionOf 305419896 == 593 && positionOf 17484 == 593 && positionOf 1145831424 == 593) = true := by
  decide +kernel

/-! ## Power-on, resets and the clock -/

theorem test_power_on :
    gives (exec (.powerOn 251 0xFFFFFFFE) busy) (fun t =>
      t.station == .broadcastOnly && t.run == .stopped && t.clock == .powerOn && t.permits == [] &&
      (t.input 0).contact == .opened && (t.input 2).contact == .closed) = true := by
  decide +kernel

/-- A reset with X PROVISIONAL: NOT_ENTERED, then CONTROLLER_RESET with detail 1 (R108, R173). -/
theorem test_reset_pin :
    gives (exec (.resetPin 17) released) (fun t =>
      kinds t == [.notEntered, .controllerReset] && details t == [none, some 1] &&
      t.station == .address 17 && (t.room 2).entries == [] && (t.slot 102).map (·.count) == some 0 &&
      t.loop == .silent) = true := by
  decide +kernel

theorem test_reset_pin_release :
    gives (exec .resetPinRelease { State.reset with
      pinHeld := true, now := 500
      doors := State.reset.doors.set 3 { doorAt 2 4 5 with state := .idle }
      inputs := State.reset.inputs.map fun x => { x with steady := none } }) (fun t =>
      !t.pinHeld && t.loop == .poll 4 none 515 && t.scanDue == 500 &&
      (t.input 31).steady == some 520) = true := by
  decide +kernel

/-- Midnight: the counts are zeroed (R5, R27). -/
theorem test_tick_midnight :
    gives (exec .secondTick { released with clock := ⟨.set, ⟨31, 3, 17⟩, 23, 59, 59⟩ }) (fun t =>
      t.clock == ⟨.set, ⟨31, 3, 18⟩, 0, 0, 0⟩ && (t.slot 102).map (·.count) == some 0 &&
      t.nextTick == 102000) = true := by
  decide +kernel

/-- An entry past its deadline and its grace is marked once the signal falls due (R101, R102). -/
theorem test_tick_overstay :
    gives (exec .secondTick { inside with
      clock := ⟨.set, ⟨31, 3, 17⟩, 18, 14, 59⟩
      rooms := inside.rooms.set 2 { roomOf .single with
        entries := [{ entryX with state := .confirmed, entitled := some 16414200 }] } }) (fun t =>
      kinds t == [.overstay] && details t == [some 16414200] &&
      (t.room 2).entries.map Entry.overstay == [true]) = true := by
  decide +kernel

theorem test_unknown_kind :
    gives (exec (.unknownKind 0 (one [])) State.reset) (fun t =>
      owed t == [(.unknownKind, .empty)] && kinds t == [.linkUp] && t.silence == some 60000) = true := by
  decide +kernel

/-- The response to RESET is followed by the reset, detail 2 (R173, R186). -/
theorem test_response_sent_reset :
    gives (exec (.responseSent 9) { busy with sending := true, responses := [⟨6, .accepted, .empty⟩] }) (fun t =>
      kinds t == [.controllerReset] && details t == [some 2] && t.station == .address 9 &&
      t.link == .offline && t.loop == .poll 4 none 100015 && t.round == 0) = true := by
  decide +kernel

theorem test_response_start :
    gives (exec .responseStart { busy with responses := [⟨4, .accepted, .empty⟩] }) (fun t =>
      t.sending && t.responses.length == 1) = true := by
  decide +kernel

theorem test_silence_timeout :
    gives (exec .silenceTimeout busy) (fun t =>
      kinds t == [.linkDown] && details t == [some 60] && t.link == .offline && t.now == 160000) = true := by
  decide +kernel

/-! ## Controller requests -/

theorem test_read_status :
    gives (exec (.readStatus (one [])) released) (fun t =>
      owed t == [(.accepted, .status
        ⟨.address 1, .running, .online, .set, 0, 0, 0, 2, 0, 0, 1, 0, 0, 0, 0⟩)]) = true := by
  decide +kernel

theorem test_read_settings_bad_selector :
    gives (exec (.readSettings (one [2])) busy) (fun t => owed t == [(.badValue, .empty)]) = true := by
  decide +kernel

/-- The power-on parameters as a payload, with the pairing window sent as 2 and stored as 5 (R174). -/
theorem test_set_controller_clamps :
    gives (exec (.setController (one ([2, 2, 0, 60, 0, 2, 2, 2, 2, 0, 80, 1, 0x90, 1, 0xF4, 3, 0x52, 2] ++
      List.replicate 35 1))) State.reset) (fun t =>
      t.params.pairingWindow == 5 && t.params.normalTop == 400 && t.params.openThreshold == 850 &&
      t.params.banks == Params.powerOn.banks && t.params.priority .entryDenied == 1) = true := by
  decide +kernel

/-- The commissioning sequence: START refused with code 1 and channel 3 while room 2 is not in use. -/
theorem test_start_inconsistent :
    gives (exec (.start (one [])) { State.reset with
      doors := State.reset.doors.set 3 { doorAt 2 4 5 with state := .idle } }) (fun t =>
      owed t == [(.configInconsistent, .configFault 1 3)] && t.run == .stopped) = true := by
  decide +kernel

theorem test_start :
    gives (exec (.start (one [])) { State.reset with
      rooms := State.reset.rooms.set 2 (roomOf .single)
      doors := State.reset.doors.set 3 { doorAt 2 4 5 with state := .idle } }) (fun t =>
      owed t == [(.accepted, .empty)] && kinds t == [.linkUp, .controllerStarted] &&
      (t.door 3).state == .secure && (t.door 4).state == .idle) = true := by
  decide +kernel

/-- STOP: CONTROLLER_STOPPED, then the pairing cancellation, NOT_ENTERED, and the doors (R142, R172). -/
theorem test_stop :
    gives (exec (.stop (one [])) { released with pairings := waitingE.pairings }) (fun t =>
      kinds t == [.controllerStopped, .entryDenied, .notEntered] && (t.door 3).state == .idle &&
      (t.room 2).entries == [] && t.run == .stopped) = true := by
  decide +kernel

theorem test_reset_request :
    gives (exec (.reset (one [])) busy) (fun t =>
      owed t == [(.accepted, .empty)] && t.run == .running && t.queue == []) = true := by
  decide +kernel

/-- After a power cut: LINK_UP without a stamp, CLOCK_SET with one and without a detail number. -/
theorem test_set_time_after_power_cut :
    gives (exec (.setTime (every [31, 3, 17, 7, 1, 10])) State.reset) (fun t =>
      kinds t == [.linkUp, .clockSet] && details t == [none, none] &&
      t.queue.map Record.stamp == [none, some ⟨⟨31, 3, 17⟩, 7, 1, 10⟩] && t.responses == []) = true := by
  decide +kernel

theorem test_set_time_bad_date :
    gives (exec (.setTime (one [31, 2, 29, 7, 1, 10])) State.reset) (fun t =>
      owed t == [(.badValue, .empty)] && t.clock == .powerOn) = true := by
  decide +kernel

theorem test_minute_mark_forward :
    gives (exec (.minuteMark (one [])) { busy with clock := ⟨.set, ⟨31, 3, 17⟩, 22, 59, 56⟩ }) (fun t =>
      t.clock == ⟨.set, ⟨31, 3, 17⟩, 23, 0, 0⟩) = true := by
  decide +kernel

theorem test_minute_mark_unset :
    gives (exec (.minuteMark (one [])) State.reset) (fun t => owed t == [(.clockUnset, .empty)]) = true := by
  decide +kernel

theorem test_read_time :
    gives (exec (.readTime (one [])) busy) (fun t =>
      owed t == [(.accepted, .timeReading ⟨busy.clock, 0, 11398, 845, 16413965⟩)]) = true := by
  decide +kernel

/-! ## Permit tables (the worked sequence of chapter 1.3) -/

/-- The record of X under work order 512,300 by the layout of chapter 1.1: rooms 3 and 7, 2031-03-09 to
2031-03-24, no minutes, schedule 12, HONOUR, allowance sent as 20. -/
def recordX : List Byte :=
  [1, 0x02, 0x65, 0x92, 0x3F, 0, 0x07, 0xD1, 0x2C, 0x00, 0x88, 31, 3, 9, 31, 3, 24,
   0xFF, 0xFF, 0xFF, 0xFF, 12, 0, 20]

theorem test_open_window :
    gives (exec (.openPermitWindow (one [0, 100, 0, 103])) busy) (fun t =>
      t.window == some ⟨100, 103⟩ && owed t == [(.accepted, .windowSlots 100 103)]) = true := by
  decide +kernel

theorem test_open_window_reversed :
    gives (exec (.openPermitWindow (one [0, 103, 0, 100])) { busy with window := some ⟨0, 1⟩ }) (fun t =>
      t.window == none && owed t == [(.badValue, .empty)]) = true := by
  decide +kernel

/-- The pair stands in slot 102 already: DUPLICATE, and the position stays. -/
theorem test_permit_duplicate :
    gives (exec (.permitRecord (one recordX)) { busy with window := some ⟨100, 103⟩ }) (fun t =>
      owed t == [(.duplicate, .duplicateSlot 100 102)] && t.window == some ⟨100, 103⟩) = true := by
  decide +kernel

/-- The same pair replaces slot 102: the count is 0 and the allowance is stored as 15. -/
theorem test_permit_replaced :
    gives (exec (.permitRecord (one recordX)) { released with window := some ⟨102, 103⟩ }) (fun t =>
      t.window == some ⟨103, 103⟩ &&
      t.slot 102 == some ⟨.active, { passX with
        rooms := 0x0088, lastDay := 11405, schedule := 12, holidayRule := .honour, allowance := 15 }, 0⟩) = true := by
  decide +kernel

theorem test_read_permit_free :
    gives (exec (.readPermit (one [0, 101])) busy) (fun t =>
      owed t == [(.accepted, .permit .free)]) = true := by
  decide +kernel

theorem test_suspend :
    gives (exec (.suspendPermit (one [0, 102])) released) (fun t =>
      t.slot 102 == some ⟨.suspended, passX, 1⟩) = true := by
  decide +kernel

theorem test_resume_free :
    gives (exec (.resumePermit (one [0, 101])) busy) (fun t => owed t == [(.notFound, .empty)]) = true := by
  decide +kernel

theorem test_write_schedule :
    gives (exec (.writeSchedule (every [63, 1, 0x26, 0xE8, 1, 0xE0])) busy) (fun t =>
      t.schedule 63 == [⟨9960, 480⟩] && t.schedule 62 == []) = true := by
  decide +kernel

theorem test_read_schedule_bad :
    gives (exec (.readSchedule (one [64])) busy) (fun t => owed t == [(.badValue, .empty)]) = true := by
  decide +kernel

theorem test_add_holiday_in_order :
    gives (exec (.addHoliday (one [31, 3, 17])) { busy with holidays := [11397, 11399] }) (fun t =>
      t.holidays == [11397, 11398, 11399] && owed t == [(.accepted, .holidayCount 3)]) = true := by
  decide +kernel

theorem test_remove_holiday_not_held :
    gives (exec (.removeHoliday (one [31, 3, 17])) busy) (fun t => owed t == [(.notFound, .empty)]) = true := by
  decide +kernel

theorem test_clear_holidays :
    gives (exec (.clearHolidays (every [])) { busy with holidays := [1, 2] }) (fun t =>
      t.holidays == []) = true := by
  decide +kernel

theorem test_read_holidays :
    gives (exec (.readHolidays (one [])) { busy with holidays := [0, 36524] }) (fun t =>
      owed t == [(.accepted, .holidays [⟨0, 1, 1⟩, ⟨99, 12, 31⟩])]) = true := by
  decide +kernel

/-! ## Revocation (chapter 6.5) -/

/-- A full exact list. -/
def fullList : List Credential := (List.range 256).map fun n => BitVec.ofNat 32 (n + 1)

/-- B into a full list: REVOCATION_OVERFLOW with detail 593. -/
theorem test_revoke_overflow :
    gives (exec (.revoke (one (bytesOfCredential 305419896))) { busy with exactList := fullList }) (fun t =>
      t.filter == [593] && kinds t == [.revocationOverflow] && details t == [some 593]) = true := by
  decide +kernel

/-- D PROVISIONAL: the entry goes, the release is cancelled, the lock is secure and the count falls to 0. -/
theorem test_revoke_provisional :
    gives (exec (.revoke (one (bytesOfCredential credX))) released) (fun t =>
      t.exactList == [credX] && kinds t == [.notEntered] && (t.door 3).release == none &&
      (t.door 3).lock == .deEnergised && (t.door 3).state == .secure &&
      (t.slot 102).map (·.count) == some 0) = true := by
  decide +kernel

theorem test_reinstate_filtered :
    gives (exec (.reinstate (one (bytesOfCredential 305419896))) { busy with filter := [593] }) (fun t =>
      owed t == [(.filtered, .exactCount 0)] && t.filter == [593]) = true := by
  decide +kernel

theorem test_clear_filter :
    gives (exec (.clearFilter (one [])) { busy with filter := [5, 593], exactList := [7] }) (fun t =>
      owed t == [(.accepted, .filterCleared 2)] && t.filter == [] && t.exactList == [7]) = true := by
  decide +kernel

theorem test_check_credential :
    gives (exec (.checkCredential (one (bytesOfCredential 17484))) { busy with filter := [593] }) (fun t =>
      owed t == [(.accepted, .credential ⟨.filter, 593, true, 0, 1⟩)]) = true := by
  decide +kernel

theorem test_read_revocations_start :
    gives (exec (.readRevocations (one [1, 0])) busy) (fun t => owed t == [(.badValue, .empty)]) = true := by
  decide +kernel

/-! ## Rooms -/

theorem test_set_room_occupied :
    gives (exec (.setRoom (one [2, 0, 4, 0, 0, 0, 0, 15])) { inside with run := .stopped }) (fun t =>
      owed t == [(.roomOccupied, .empty)]) = true := by
  decide +kernel

/-- Lone work barred: the room with a contractor alone becomes UNESCORTED at once (R86, R90). -/
theorem test_set_room_supervises :
    gives (exec (.setRoom (one [2, 1, 40, 0, 0, 1, 0, 250])) { inside with run := .stopped }) (fun t =>
      (t.room 2).settings.cap == 32 && (t.room 2).settings.grace == 240 && kinds t == [.unescorted] &&
      details t == [some 1]) = true := by
  decide +kernel

theorem test_read_room :
    gives (exec (.readRoom (one [2, 1])) inside) (fun t =>
      owed t == [(.accepted, .room ⟨2, .clear, 1, 127, []⟩)]) = true := by
  decide +kernel

theorem test_clear_occupant :
    gives (exec (.clearOccupant (one (bytesOfCredential credX))) released) (fun t =>
      owed t == [(.accepted, .occupantCleared 2 .provisional)] && (t.door 3).provisional == [] &&
      (t.door 3).state == .released && (t.slot 102).map (·.count) == some 1) = true := by
  decide +kernel

theorem test_clear_room :
    gives (exec (.clearRoom (one [2])) inside) (fun t =>
      owed t == [(.accepted, .roomCleared 1)] && kinds t == [.occupantCleared] && details t == [some 0]) = true := by
  decide +kernel

/-! ## Doors (chapter 7) -/

theorem test_set_door_clamps :
    gives (exec (.setDoor (one [3, 1, 2, 5, 255, 0, 0, 1, 1, 0, 1, 1, 0, 1, 0])) State.reset) (fun t =>
      (t.door 3).settings.releaseTime == 1 && (t.door 3).settings.openAllowance == 5 &&
      (t.door 3).settings.exitReader == none && (t.door 3).lock == .energised &&
      t.assignment 4 == some (3, .entry) && t.loop == .poll 4 none 15) = true := by
  decide +kernel

theorem test_set_door_mode_lockdown :
    gives (exec (.setDoorMode (one [3, 1])) released) (fun t =>
      (t.door 3).state == .secure && (t.door 3).lock == .deEnergised && (t.room 2).entries == [] &&
      kinds t == [.doorModeChanged, .notEntered] && details t == [some 1, none]) = true := by
  decide +kernel

theorem test_set_door_mode_all :
    gives (exec (.setDoorMode (every [255, 2])) busy) (fun t =>
      t.queue.length == 16 && (t.door 3).state == .idle && (t.door 15).mode == .outOfService) = true := by
  decide +kernel

theorem test_release_door :
    gives (exec (.releaseDoor (one [3])) busy) (fun t =>
      (t.door 3).release == some 105000 && kinds t == [.remoteRelease] && details t == [some 5] &&
      owed t == [(.accepted, .doorState .released)]) = true := by
  decide +kernel

theorem test_silence :
    gives (exec (.silence (one [3])) (doorIs .held fun d => { d with sounder := .on })) (fun t =>
      (t.door 3).sounder == .silenced && owed t == [(.accepted, .silenced .held .silenced)]) = true := by
  decide +kernel

theorem test_read_door :
    gives (exec (.readDoor (one [3])) { released with now := 100001 }) (fun t =>
      match owed t with
      | [(.accepted, .door x)] => x.release == some 5 && x.egress == none && x.provisional == [credX]
      | _ => false) = true := by
  decide +kernel

theorem test_release_expiry :
    gives (exec (.releaseTimerExpiry 3) released) (fun t =>
      (t.door 3).state == .secure && (t.door 3).lock == .deEnergised && (t.room 2).entries == [] &&
      kinds t == [.notEntered] && t.now == 105000) = true := by
  decide +kernel

theorem test_egress_expiry :
    gives (exec (.egressTimerExpiry 3) (doorIs .released fun d => { d with egress := some 105000 })) (fun t =>
      (t.door 3).state == .secure && t.queue == []) = true := by
  decide +kernel

theorem test_allowance_expiry :
    gives (exec (.openAllowanceExpiry 3) (doorIs .opened fun d => { d with allowance := some 130000 })) (fun t =>
      (t.door 3).state == .held && (t.door 3).sounder == .on && kinds t == [.doorHeld] &&
      details t == [some 30]) = true := by
  decide +kernel

/-! ## Inputs (chapter 8) -/

/-- The bouncing button: the contact closes and the steady timer runs 20 ms. -/
theorem test_contact_change :
    gives (exec (.contactChange 7 .closed) busy) (fun t =>
      (t.input 7).steady == some 100020 && (t.input 7).level == .normal) = true := by
  decide +kernel

/-- The press is accepted: the egress timer runs and the door is RELEASED with its lock at rest. -/
theorem test_press :
    gives (exec (.steadyTimerExpiry 7) { busy with
      inputs := busy.inputs.set 7 { busy.inputs[7] with contact := .closed, steady := some 100020 } }) (fun t =>
      (t.door 3).state == .released && (t.door 3).egress == some 105020 && (t.door 3).release == none &&
      (t.door 3).lock == .deEnergised) = true := by
  decide +kernel

/-- An opening from SECURE is forced (R131). -/
theorem test_forced :
    gives (exec (.steadyTimerExpiry 6) { busy with
      inputs := busy.inputs.set 6 { busy.inputs[6] with contact := .opened, steady := some 100020 } }) (fun t =>
      (t.door 3).state == .forced && (t.door 3).sounder == .on && kinds t == [.doorForced]) = true := by
  decide +kernel

/-- The cut cable at the second FAULT_OPEN reading: INPUT_FAULT with detail 62 for input 6. -/
theorem test_scanner_cut :
    gives (exec (.scannerPass (Vector.replicate 32 1023)) { busy with
      inputs := busy.inputs.set 6 { busy.inputs[6] with
        mode := .supervised, accepted := some .normal, candidate := some .cut, run := 1 } }) (fun t =>
      kinds t == [.inputFault] && details t == [some 62] && (t.input 6).level == .normal &&
      (t.input 6).fault == .cut && t.scanDue == 100040) = true := by
  decide +kernel

/-- A reading in the indeterminate band breaks the run. -/
theorem test_scanner_indeterminate :
    gives (exec (.scannerPass (Vector.replicate 32 455)) { busy with
      inputs := busy.inputs.set 6 { busy.inputs[6] with
        mode := .supervised, accepted := some .normal, candidate := some .active, run := 1 } }) (fun t =>
      (t.input 6).run == 0 && (t.input 6).candidate == none && (t.input 6).lastValue == some 455) = true := by
  decide +kernel

theorem test_set_input :
    gives (exec (.setInput (one [6, 1, 0])) { busy with run := .stopped }) (fun t =>
      owed t == [(.accepted, .inputStored 6 .supervised .normallyClosed .unclassified)] &&
      (t.input 6).steady == none) = true := by
  decide +kernel

theorem test_read_inputs_reversed :
    gives (exec (.readInputs (one [7, 6])) busy) (fun t => owed t == [(.badValue, .empty)]) = true := by
  decide +kernel

/-! ## Readers (chapter 9) -/

theorem test_read_readers :
    gives (exec (.readReaders (one [5, 5])) busy) (fun t =>
      owed t == [(.accepted, .readers 3 2 [⟨some (3, .entry), .online, 0, false, none, none⟩])]) = true := by
  decide +kernel

/-- The eighth miss makes the reader OFFLINE. -/
theorem test_reply_window_expiry :
    gives (exec .replyWindowExpiry { busy with
      readers := busy.readers.set 4 { busy.readers[4] with misses := 7 } }) (fun t =>
      (t.reader 4).state == .offline && kinds t == [.readerOffline] && t.loop == .poll 5 none 100030) = true := by
  decide +kernel

/-- A round in which nobody is due ends after a quiet interval: round 7 is followed by round 0. -/
theorem test_quiet_expiry :
    gives (exec .quietIntervalExpiry { busy with round := 7, loop := .quiet 100015 }) (fun t =>
      t.round == 0 && t.loop == .poll 4 none 100030) = true := by
  decide +kernel

/-- X at the door of room 2: GRANT, the release, the PROVISIONAL entry, the count and ENTRY_GRANTED. -/
theorem test_entry_granted :
    gives (exec (.replyReceived (withCrc [9, 5, 0, 0x02, 0x65, 0x92, 0x3F])) busy) (fun t =>
      t.door 3 == released.door 3 && t.room 2 == released.room 2 && t.permits == released.permits &&
      kinds t == [.entryGranted] && (t.reader 4).pending == some .grant) = true := by
  decide +kernel

/-- X presents again at once, past the repeat filter, with its entry PROVISIONAL at the door: a re-grant. -/
theorem test_regrant :
    gives (exec (.replyReceived (withCrc [9, 5, 0, 0x02, 0x65, 0x92, 0x3F])) { released with
      now := 103000 }) (fun t =>
      kinds t == [.regrant] && (t.door 3).release == some 108000 && t.room 2 == released.room 2) = true := by
  decide +kernel

/-! ## Pairing (chapter 4) -/

theorem test_pairing_timeout :
    gives (exec (.pairingDeadlineExpiry 12) waitingE) (fun t =>
      t.pairing 12 == none && kinds t == [.entryDenied] && t.now == 110000 &&
      t.queue.map (fun r => r.report.reason) == [some .pairingTimeout]) = true := by
  decide +kernel

/-- X joins the waiting escort: both are granted, escort first. -/
theorem test_pairing_completes :
    gives (exec (.replyReceived (withCrc [9, 14, 0, 0x02, 0x65, 0x92, 0x3F])) waitingE) (fun t =>
      t.pairing 12 == none && kinds t == [.entryGranted, .entryGranted] &&
      (t.door 12).provisional == [credE, credX] &&
      (t.room 9).entries.map Entry.credential == [credE, credX]) = true := by
  decide +kernel

/-! ## Records (chapter 11) -/

theorem test_collect :
    gives (exec (.collect (one [0])) { busy with
      queue := [⟨7, none, 1, { kind := .linkUp }⟩, ⟨8, none, 1, { kind := .exit }⟩] }) (fun t =>
      owed t == [(.accepted, .collected 1 0 [⟨7, none, 1, { kind := .linkUp }⟩])] &&
      kinds t == [.exit]) = true := by
  decide +kernel

/-- The full queue: the oldest record of the lowest priority gives way, unless it is above the newcomer's. -/
theorem test_full_queue :
    ((enqueue ⟨9, none, 2, { kind := .entryDenied }⟩
        (⟨5, none, 3, { kind := .doorForced }⟩ :: ⟨6, none, 2, { kind := .entryDenied }⟩ ::
          List.replicate 1022 ⟨7, none, 2, { kind := .entryDenied }⟩)).map Record.sequence ==
      5 :: List.replicate 1022 7 ++ [9]) = true := by
  decide +kernel

/-! ## Witnesses of the statements' hypotheses

Each shows concrete states and operands that meet the hypotheses of a statement, clause by clause, at boundary
values where a clause has a range. -/

/-- A part that is neither sending nor held in reset takes an addressed request. -/
theorem takes_one (s : State) (p : List Byte) (h1 : s.sending = false) (h2 : s.pinHeld = false)
    (h3 : hasAddress s.station = true) : s.addressed (one p) := by
  simp [State.addressed, State.receives, one, h1, h2, h3]

/-- It takes a broadcast as well. -/
theorem takes_every (s : State) (p : List Byte) (h1 : s.sending = false) (h2 : s.pinHeld = false) :
    s.broadcasted (every p) := by
  simp [State.broadcasted, State.receives, every, h1, h2]

theorem busy_one (p : List Byte) : busy.addressed (one p) := takes_one busy p rfl rfl rfl
theorem busy_every (p : List Byte) : busy.broadcasted (every p) := takes_every busy p rfl rfl

/-- A computable reading of `State.referencesWf`. -/
theorem referencesWf_of_lists (s : State)
    (h0 : ∀ k, (s.door k).provisional.Nodup)
    (h1 : (sixteen.all fun k => (s.door k).provisional.all fun c =>
      s.allEntries.any fun e => e.credential == c && e.state == .provisional && e.door == k) = true)
    (h2 : (s.allEntries.all fun e =>
      e.state != .provisional || (s.door e.door).provisional.contains e.credential) = true) :
    s.referencesWf := by
  simp only [List.all_eq_true, List.any_eq_true, sixteen, List.mem_finRange, true_implies, Bool.and_eq_true,
    beq_iff_eq, Bool.or_eq_true, bne_iff_ne, List.contains_iff_mem] at h1 h2
  refine fun k => ⟨h0 k, fun c => ⟨fun hc => ?_, ?_⟩⟩
  · obtain ⟨e, he, ⟨h3, h4⟩, h5⟩ := h1 k c hc
    exact ⟨e, he, h3, h4, h5⟩
  · rintro ⟨e, he, rfl, hp, rfl⟩
    exact (h2 e he).resolve_left fun h => h hp

/-- A table of at most eight slots holds no credential in more than eight. -/
theorem few_slots (table : List (Nat × PermitSlot)) (h : table.length ≤ 8) (c : Credential) :
    table.countP (fun e => e.2.permit.credential == c) ≤ Config.slotsPerCredential :=
  Nat.le_trans List.countP_le_length h

theorem released_occupancy : released.occupancyWf := by unfold State.occupancyWf; decide +kernel
theorem released_references : released.referencesWf :=
  referencesWf_of_lists _ (by decide +kernel) (by decide +kernel) (by decide +kernel)
theorem released_supervision : released.supervisionWf := by unfold State.supervisionWf; decide +kernel
theorem released_doors : released.doorsWf := by unfold State.doorsWf DoorChannel.wf; decide +kernel
theorem busy_doors : busy.doorsWf := by unfold State.doorsWf DoorChannel.wf; decide +kernel
theorem busy_occupancy : busy.occupancyWf := by unfold State.occupancyWf; decide +kernel
theorem busy_references : busy.referencesWf :=
  referencesWf_of_lists _ (by decide +kernel) (by decide +kernel) (by decide +kernel)

/-- The running controller stopped, its doors IDLE. -/
def halted : State :=
  { busy with
    run := .stopped
    doors := (busy.doors.set 3 { doorAt 2 4 5 with state := .idle }).set 12
      { doorAt 9 13 14 with state := .idle } }

theorem halted_doors : halted.doorsWf := by unfold State.doorsWf DoorChannel.wf; decide +kernel
theorem halted_one (p : List Byte) : halted.addressed (one p) := takes_one halted p rfl rfl rfl

/-- A pairing table without a record is well formed. -/
theorem no_pairings (s : State) (h : ∀ k, s.pairing k = none) : s.pairingsWf := by
  refine ⟨?_, fun k p hk => by simp [h k] at hk, ?_, fun _ => h⟩
  · simp [State.openPairings, h]
  · have hw : s.waiting = [] := by simp [State.waiting, h]
    simp [hw]

theorem released_pairings : released.pairingsWf := no_pairings _ (by decide +kernel)
theorem released_counts : released.countsWf := by
  refine ⟨fun e he => ?_, fun e he _ x hx _ hw => ?_⟩
  · have h : e = (102, ⟨.active, passX, 1⟩) ∨ e = (1500, ⟨.active, passE, 0⟩) := by simpa [released] using he
    rcases h with rfl | rfl
    · exact ⟨⟨⟨by decide, by decide⟩, by decide, by decide, by decide, nofun, nofun, by decide, by decide⟩,
        by decide⟩
    · exact ⟨⟨rfl, by decide, by decide, by decide, nofun, nofun, by decide, by decide⟩, by decide⟩
  · have all : released.allEntries = [entryX] := by decide +kernel
    obtain rfl : e = entryX := by simpa [all] using he
    have slot : released.slot entryX.slot = some ⟨.active, passX, 1⟩ := by decide +kernel
    obtain rfl : ⟨.active, passX, 1⟩ = x := by simpa [slot] using hx
    exact absurd rfl hw
theorem inside_occupancy : inside.occupancyWf := by unfold State.occupancyWf; decide +kernel
theorem inside_references : inside.referencesWf :=
  referencesWf_of_lists _ (by decide +kernel) (by decide +kernel) (by decide +kernel)
theorem inside_supervision : inside.supervisionWf := by unfold State.supervisionWf; decide +kernel

/-- A pairing table whose open records are all at one door, in RUNNING, is well formed with that record. -/
theorem one_pairing (s : State) (k : DoorNo) (p : PairingRecord) (hr : s.run = .running)
    (h : ∀ j, s.pairing j = if j = k then some p else none) (hp : p.wf) (ho : s.openPairings ≤ 8)
    (hw : s.waiting.Nodup) : s.pairingsWf := by
  refine ⟨ho, fun j x hj => ?_, hw, fun hs => by simp [hr] at hs⟩
  rw [h j] at hj
  split at hj
  · cases hj
    exact hp
  · cases hj

theorem waitingE_pairings : waitingE.pairingsWf :=
  one_pairing _ 12 ⟨some memberE, [], 90000, 110000⟩ rfl (by decide +kernel) rfl (by decide +kernel)
    (by decide +kernel)

/-- The controller held in reset. -/
def held : State :=
  { halted with pinHeld := true, loop := .silent, link := .offline, silence := none }

/-- An outcome that is a next state, as an existence. -/
theorem next_of_gives (o : Host.Outcome State Fault Refusal) (h : gives o (fun _ => true) = true) :
    ∃ t, o = .next t := by
  cases o with
  | next t => exact ⟨t, rfl⟩
  | fault r => simp [gives] at h
  | refused r => simp [gives] at h

/-- The same with a check that the next state passes. -/
theorem next_with (o : Host.Outcome State Fault Refusal) (check : State → Bool) (h : gives o check = true) :
    ∃ t, o = .next t ∧ check t = true := by
  cases o with
  | next t => exact ⟨t, rfl, h⟩
  | fault r => simp [gives] at h
  | refused r => simp [gives] at h

theorem witness_StepTakesFrontCommand : busy.pending = [] := rfl

theorem witness_RequestFramesRoundTrip :
    1 ≤ (1 : Byte).toNat ∧ (250 : Byte).toNat ≤ 250 ∧ (one (List.replicate 240 7)).fits = true := by
  decide +kernel

theorem witness_FramesAreJudged :
    [4, 1, 1, 0].length < 5 ∧
    ((withCrc [6, 1, 1]).getD 0 0).toNat ≠ (withCrc [6, 1, 1]).length ∧
    crcChecks [5, 1, 1, 0, 0] = false ∧
    ((withCrc [5, 2, 1]).getD 1 0 ≠ 255 ∧ busy.station ≠ .address ((withCrc [5, 2, 1]).getD 1 0)) := by
  decide +kernel

theorem witness_FaultyRequestsAreRefused :
    kindOfCode 0x00 = none ∧ kindOfCode 0x71 = none ∧ busy.addressed (one []) ∧ busy.broadcasted (every []) ∧
    RequestKind.readStatus.allows (one [0]).payload = false ∧ RequestKind.readStatus ≠ .permitRecord ∧
    RequestKind.permitRecord.allows (one [1]).payload = false ∧ busy.addressed (one [1]) :=
  ⟨rfl, rfl, busy_one _, busy_every _, rfl, nofun, by decide +kernel, busy_one _⟩

theorem witness_SomeRequestsAreNotCarriedOut :
    ({ busy with sending := true } : State).sending = true ∧ held.pinHeld = true ∧
    ((one []).broadcast = false ∧
      ({ busy with station := .broadcastOnly } : State).station = .broadcastOnly) ∧
    (busy.broadcasted (every []) ∧ RequestKind.readStatus ∉
      ([.start, .stop, .setTime, .minuteMark, .writeSchedule, .addHoliday, .removeHoliday, .clearHolidays,
        .revoke, .reinstate, .clearFilter, .setDoorMode] : List RequestKind)) :=
  ⟨rfl, rfl, ⟨rfl, rfl⟩, busy_every _, by decide⟩

theorem witness_FramesKeepTheLink :
    busy.link = .online ∧ State.reset.link = .offline ∧ busy.receives (one []) = true ∧
    (busy.receives (every []) = true ∧ (RequestKind.permitRecord ≠ .permitRecord ∨ (every []).broadcast = true)) ∧
    RequestKind.permitRecord ≠ .openPermitWindow ∧ busy.silence = some 160000 ∧ State.reset.silence = none :=
  ⟨rfl, rfl, rfl, ⟨rfl, .inr rfl⟩, nofun, rfl, rfl⟩

theorem witness_SentFramesAreFormed :
    (let s : State := { busy with sending := true, responses := [⟨0x53, .notFound, .empty⟩] };
      s.station = .address 1 ∧ s.sending = true ∧ s.responses = ⟨0x53, .notFound, .empty⟩ :: []) ∧
    busy.sending = false ∧ busy.loop = .poll 4 none 100015 ∧
    (∀ reason, (none : Option Indication) ≠ some (.deny reason)) ∧
    pollOf 30 (some .exit) = pollOf 30 (some .exit) :=
  ⟨⟨rfl, rfl, rfl⟩, rfl, rfl, nofun, rfl⟩

theorem witness_ResponseValuesAreEncoded :
    (0 < 256 ^ 0 ∧ 65535 < 256 ^ 2 ∧ ¬65536 < 256 ^ 2) ∧ DoorSettings.powerOn.exitReader = none ∧
    passX.startMinute = none ∧ passX.endMinute = none ∧ 15 < 16 ∧ passX.rooms.getLsbD 9 = true := by
  decide +kernel

theorem witness_ResponsesComeAndGo :
    (let s : State := { busy with sending := true, responses := [⟨0x04, .accepted, .empty⟩] };
      s.responses ≠ [] ∧ s.sending = true ∧
        ((0x04 : Byte) ≠ 0x06 ∨ ResultCode.accepted ≠ .accepted)) ∧
    busy.responses = [] ∧ busy.addressed (one []) ∧ (one []).payload = [] :=
  ⟨by decide +kernel, rfl, busy_one _, rfl⟩

theorem witness_ResetsClearWhatTheyShould :
    (released.occupancyWf ∧ released.referencesWf ∧ released.supervisionWf ∧ released.pinHeld = false) ∧
    (let s : State := { released with sending := true, responses := [⟨0x06, .accepted, .empty⟩] };
      s.occupancyWf ∧ s.referencesWf ∧ s.supervisionWf ∧ s.sending = true ∧
        s.responses = [⟨0x06, .accepted, .empty⟩] ∧ (∀ b : ReaderNo, b < 4 → s.assignment b = none) ∧
        (s.assignment 4).isSome = true) ∧
    busy.pinHeld = false ∧
    (held.pinHeld = true ∧ held.pinWf ∧ held.doorsWf ∧ (held.input 31).mode = .plain ∧
      held.checkTime 31 = some 20) ∧
    (let s : State := { held with
        doors := State.reset.doors, params := { held.params with banks := #v[.off, .ms20, .ms20, .off] } };
      s.pinHeld = true ∧ s.pinWf ∧ s.doorsWf ∧ (s.input 31).mode = .plain ∧ s.checkTime 31 = none ∧
        ∀ a, s.assignment a = none) :=
  ⟨⟨released_occupancy, released_references, released_supervision, rfl⟩,
    ⟨released_occupancy, released_references, released_supervision, rfl, rfl, by decide +kernel,
      by decide +kernel⟩, rfl,
    ⟨rfl, by unfold State.pinWf; decide +kernel, by unfold State.doorsWf DoorChannel.wf; decide +kernel,
      by decide +kernel, by decide +kernel⟩,
    rfl, by unfold State.pinWf; decide +kernel, by unfold State.doorsWf DoorChannel.wf; decide +kernel,
    by decide +kernel, by decide +kernel, by decide +kernel⟩

theorem witness_PowerOnStartsFromDefaults :
    (1 ≤ (1 : Byte).toNat ∧ (1 : Byte).toNat ≤ 250) ∧ (1 ≤ (250 : Byte).toNat ∧ (250 : Byte).toNat ≤ 250) ∧
    ((0 : Byte).toNat = 0 ∨ 250 < (0 : Byte).toNat) ∧ ((251 : Byte).toNat = 0 ∨ 250 < (251 : Byte).toNat) := by
  decide

/-- The running controller with its clock at a time. -/
def clockAt (c : Clock) : State := { busy with clock := c }

theorem witness_SecondTicksCount :
    (let s := clockAt ⟨.set, ⟨99, 12, 31⟩, 23, 59, 58⟩;
      s.clock.valid = true ∧
      ¬(s.clock.date = ⟨99, 12, 31⟩ ∧ s.clock.hour = 23 ∧ s.clock.minute = 59 ∧ s.clock.second = 59)) ∧
    (clockAt ⟨.set, ⟨31, 3, 17⟩, 14, 5, 58⟩).clock.second < 59 ∧
    (∀ state ∈ [ClockState.set, .unset], let s := clockAt ⟨state, ⟨31, 12, 31⟩, 23, 59, 59⟩;
      s.clock.valid = true ∧ s.clock.second = 59 ∧ s.clock.state = state ∧ s.clock.date ≠ ⟨99, 12, 31⟩) ∧
    (let s := clockAt ⟨.set, ⟨31, 3, 17⟩, 14, 58, 59⟩;
      s.clock.second = 59 ∧ s.clock.state = .set ∧ s.clock.minute < 59) ∧
    (let s := clockAt ⟨.set, ⟨99, 12, 31⟩, 23, 59, 59⟩;
      s.clock.date = ⟨99, 12, 31⟩ ∧ s.clock.hour = 23 ∧ s.clock.minute = 59 ∧ s.clock.second = 59) := by
  decide +kernel

theorem witness_DateChangesZeroTheCounts :
    let s : State := { released with clock := ⟨.set, ⟨31, 3, 17⟩, 23, 59, 59⟩ };
    ∃ t, exec .secondTick s = .next t ∧ decide (t.clock.date ≠ s.clock.date ∧ t.permits ≠ []) = true :=
  next_with _ _ (by decide +kernel)

theorem witness_TimeRequestsSetTheClock :
    (busy.addressed (one [99, 12, 31, 23, 59, 59]) ∧ busy.broadcasted (every [0, 1, 1, 0, 0, 0]) ∧
      (dateOf 99 12 31).valid = true ∧ (23 : Byte).toNat ≤ 23 ∧ (59 : Byte).toNat ≤ 59 ∧
      (dateOf 0 1 1).valid = true ∧ ¬(dateOf 1 2 29).valid = true ∧ ¬(24 : Byte).toNat ≤ 23) ∧
    (∀ c : Clock, (clockAt c).addressed (one [])) ∧
    State.reset.clock.state = .unset ∧ State.reset.addressed (one []) ∧
    (clockAt ⟨.set, ⟨31, 3, 17⟩, 14, 5, 29⟩).clock.second < 30 ∧
    (30 ≤ (clockAt ⟨.set, ⟨99, 12, 31⟩, 23, 59, 30⟩).clock.second ∧
      (clockAt ⟨.set, ⟨99, 12, 31⟩, 23, 59, 30⟩).clock.date = ⟨99, 12, 31⟩) ∧
    (let s := clockAt ⟨.set, ⟨99, 12, 31⟩, 23, 58, 30⟩;
      30 ≤ s.clock.second ∧ s.clock.valid = true ∧
        ¬(s.clock.date = ⟨99, 12, 31⟩ ∧ s.clock.hour = 23 ∧ s.clock.minute = 59)) :=
  ⟨⟨busy_one _, busy_every _, by decide +kernel⟩, fun c => takes_one (clockAt c) _ rfl rfl rfl, rfl,
    takes_one _ _ rfl rfl rfl, by decide +kernel, by decide +kernel, by decide +kernel⟩

theorem witness_CalendarArithmeticAgrees :
    Date.valid ⟨99, 12, 31⟩ = true ∧ Date.valid ⟨0, 2, 29⟩ = true ∧ 36524 ≤ 36524 ∧
    (10079 ≤ 10079 ∧ 10080 ≤ 10080 ∧ WeeklyWindow.contains ⟨10079, 10080⟩ 10078 = true) ∧
    WeeklyWindow.contains ⟨0, 0⟩ 0 = false := by
  decide +kernel

theorem witness_PermitChecksAndEntitlement :
    let x : PermitSlot := ⟨.active, passX, 1⟩;
    (busy.clock.state = .set ∧ busy.clock.valid = true ∧ x.permit.role = .contractor ∧
      busy.checkSlot 2 busy.clock 102 x = none) ∧
    ({ passX with schedule := 255 } : PermitRecord).schedule = 255 ∧ passE.role = .escort ∧
    (let s : State := { busy with schedules := busy.schedules.set 5 [⟨800, 46⟩, ⟨840, 100⟩, ⟨845, 20⟩] };
      let windows := (s.schedule 5).filter fun w => w.contains s.clock.minuteOfWeek;
      ⟨840, 100⟩ ∈ windows ∧ windows.length = 3 ∧ ∀ v ∈ windows, v.remaining s.clock.minuteOfWeek ≤
        WeeklyWindow.remaining ⟨840, 100⟩ s.clock.minuteOfWeek) := by
  decide +kernel

theorem witness_ClockQueueAndTrunkStayWellFormed :
    (let s := released.withCommand .secondTick;
      s.clock.valid = true ∧ s.queueWf ∧ ∃ t, step s = .next t) ∧
    (let s := busy.withCommand .silenceTimeout;
      s.linkWf ∧ ∃ t, step s = .next t) ∧
    (let s := held.withCommand .resetPinRelease;
      s.pinWf ∧ s.pinHeld = true ∧ ∃ t, step s = .next t) :=
  ⟨⟨by decide +kernel, by unfold State.queueWf; decide +kernel, next_of_gives _ (by decide +kernel)⟩,
    ⟨by unfold State.linkWf; decide +kernel, next_of_gives _ (by decide +kernel)⟩,
    by unfold State.pinWf; decide +kernel, rfl, next_of_gives _ (by decide +kernel)⟩

/-- The running controller with every kind of record at one priority and a queue. -/
def recording (priority : Fin 4) (queue : List Record) : State :=
  { busy with params := { busy.params with priorities := Vector.replicate 35 priority }, queue := queue }

/-- A queued record of a priority. -/
def aged (sequence : BitVec 32) (priority : Nat) : Record := ⟨sequence, none, priority, { kind := .exit }⟩

theorem witness_RecordsAreQueuedAndCollected :
    (recording 0 []).params.priority .exit = 0 ∧
    ((recording 1 []).params.priority .exit ≠ 0 ∧ (recording 1 []).queue.length < 1024) ∧
    (let s := recording 2 (aged 5 3 :: aged 6 2 :: List.replicate 1022 (aged 7 2));
      s.params.priority .exit ≠ 0 ∧ 1024 ≤ s.queue.length ∧
        s.queue = [aged 5 3] ++ aged 6 2 :: List.replicate 1022 (aged 7 2) ∧
        (aged 6 2).priority ≤ s.params.priority .exit ∧ (∀ r ∈ s.queue, (aged 6 2).priority ≤ r.priority) ∧
        ∀ r ∈ [aged 5 3], r.priority ≠ (aged 6 2).priority) ∧
    (let s := recording 1 (List.replicate 1024 (aged 7 2));
      1024 ≤ s.queue.length ∧ ∀ r ∈ s.queue, s.params.priority .exit < r.priority) ∧
    (∀ b : Byte, busy.addressed (one [b])) ∧ (0 : Byte).toNat = 0 ∧ 8 < (9 : Byte).toNat ∧
    ¬8 < (8 : Byte).toNat :=
  ⟨by decide +kernel, by decide +kernel, by decide +kernel, by decide +kernel, fun _ => busy_one _, by decide⟩

/-- The running controller with an open permit window. -/
def loading (position last : Nat) : State := { busy with window := some ⟨position, last⟩ }

theorem loading_one (position last : Nat) (p : List Byte) : (loading position last).addressed (one p) :=
  takes_one _ _ rfl rfl rfl

theorem witness_PermitRecordsAreWritten :
    (busy.addressed (one [0, 0, 0x07, 0xFF]) ∧ (2047 ≤ 2047 ∧ 0 ≤ 2047)) ∧
    (busy.addressed (one [0, 0, 0x08, 0x00]) ∧ ¬(2048 ≤ 2047 ∧ 0 ≤ 2048)) ∧
    (busy.addressed (one [0, 1, 0, 0]) ∧ ¬(0 ≤ 2047 ∧ 1 ≤ 0)) ∧
    ((loading 102 102).addressed (one recordX) ∧ (loading 102 102).window = some ⟨102, 102⟩ ∧ 102 ≤ 102 ∧
      recordX = 1 :: recordX.tail ∧
      recordX.tail.length = 23 ∧ offerAllowed recordX.tail ∧
      (∀ e ∈ (loading 102 102).permits, e.1 ≠ 102 → ¬(e.2.permit.credential.toNat = numberAt recordX.tail 0 4 ∧
        e.2.permit.workOrder = numberAt recordX.tail 5 3)) ∧
      ((loading 102 102).permits.countP fun e =>
        decide (e.1 ≠ 102) && e.2.permit.credential.toNat == numberAt recordX.tail 0 4) < 8) ∧
    (loading 102 102).addressed (one [0]) ∧ (one [0]).payload = [0] :=
  ⟨⟨busy_one _, by decide⟩, ⟨busy_one _, by decide⟩, ⟨busy_one _, by decide⟩,
    ⟨loading_one _ _ _, rfl, le_refl _, rfl, rfl, by unfold offerAllowed; decide +kernel, by decide +kernel,
      by decide +kernel⟩,
    loading_one _ _ _, rfl⟩

/-- The record of X with one of its 23 bytes changed. -/
def offerWith (i : Nat) (b : Byte) : List Byte := recordX.tail.set i b

/-- Each structural fault of R2, one byte from a record that has none, and the clamped fields, which are none. -/
theorem test_structural_faults :
    (¬offerAllowed (offerWith 4 2) ∧ ¬offerAllowed (offerWith 4 1) ∧ ¬offerAllowed (offerWith 5 15) ∧
      ¬offerAllowed (offerWith 14 13) ∧ ¬offerAllowed (offerWith 13 0) ∧ ¬offerAllowed (offerWith 20 64) ∧
      ¬offerAllowed (offerWith 20 254) ∧ ¬offerAllowed (offerWith 21 2)) ∧
    offerAllowed (offerWith 20 63) ∧ offerAllowed (offerWith 16 6) ∧ offerAllowed (offerWith 22 16) := by
  refine ⟨⟨?_, ?_, ?_, ?_, ?_, ?_, ?_, ?_⟩, ?_, ?_, ?_⟩ <;> unfold offerAllowed <;> decide +kernel

/-- Eight slots of X, each under a work order of its own. -/
def eightSlots : List (Nat × PermitSlot) :=
  (List.range 8).map fun n => (n, ⟨.active, { passX with workOrder := n + 1 }, 0⟩)

theorem witness_PermitRecordsAreRefused :
    busy.addressed (one recordX) ∧ RequestKind.permitRecord.allows recordX = true ∧ busy.window = none ∧
    (loading 103 102).window = some ⟨103, 102⟩ ∧ 102 < 103 ∧
    (RequestKind.permitRecord.allows [2] = true ∧ (2 : Byte) ≠ 0 ∧ (2 : Byte) ≠ 1) ∧
    (RequestKind.permitRecord.allows (1 :: List.replicate 23 0) = true ∧ ¬offerAllowed (List.replicate 23 0)) ∧
    offerAllowed recordX.tail ∧
    (let s := loading 100 103;
      (102, ⟨.active, passX, 0⟩) ∈ s.permits.filter (fun e =>
        decide (e.1 ≠ 100) && e.2.permit.credential.toNat == numberAt recordX.tail 0 4) ∧
      Rising (s.permits.map Prod.fst) ∧ passX.workOrder = numberAt recordX.tail 5 3 ∧
      ∀ e ∈ s.permits.filter (fun e =>
        decide (e.1 ≠ 100) && e.2.permit.credential.toNat == numberAt recordX.tail 0 4),
        e.2.permit.workOrder = numberAt recordX.tail 5 3 → 102 ≤ e.1) ∧
    (let s : State := { loading 100 103 with permits := eightSlots };
      let others := s.permits.filter (fun e =>
        decide (e.1 ≠ 100) && e.2.permit.credential.toNat == numberAt recordX.tail 0 4);
      s.addressed (one recordX) ∧ (∀ e ∈ others, e.2.permit.workOrder ≠ numberAt recordX.tail 5 3) ∧
      8 ≤ others.length) :=
  ⟨busy_one _, by decide +kernel, rfl, rfl, by decide, by decide +kernel,
    ⟨by decide +kernel, by unfold offerAllowed; decide +kernel⟩, by unfold offerAllowed; decide +kernel,
    ⟨by decide +kernel, by unfold Rising; decide +kernel, by decide +kernel, by decide +kernel⟩,
    takes_one _ _ rfl rfl rfl, by decide +kernel, by decide +kernel⟩

theorem witness_PermitsAreSuspendedAndResumed :
    busy.addressed (one [0, 102]) ∧ 102 ≤ 2047 ∧ busy.slot 102 = some ⟨.active, passX, 0⟩ ∧
    busy.addressed (one [0x07, 0xFF]) ∧ 2047 ≤ 2047 ∧ busy.slot 2047 = none ∧
    busy.addressed (one [0x08, 0x00]) ∧ 2047 < 2048 :=
  ⟨busy_one _, by decide, rfl, busy_one _, by decide, rfl, busy_one _, by decide⟩

theorem witness_PermitRecordsRoundTrip :
    ∃ offer p, permitOfferOf recordX.tail = some offer ∧ offer.checked = some p := ⟨_, _, rfl, rfl⟩

theorem witness_SchedulesAndHolidaysAreKept_schedules :
    (let windows := List.replicate 8 (⟨10079, 10080⟩ : WeeklyWindow);
      63 < 256 ∧ windows.length < 256 ∧ (∀ w ∈ windows, w.start < 65536 ∧ w.length < 65536) ∧
      (63 ≤ 63 ∧ windows.length ≤ 8 ∧ ∀ w ∈ windows, w.start ≤ 10079 ∧ 1 ≤ w.length ∧ w.length ≤ 10080)) ∧
    (let windows := List.replicate 9 (⟨0, 1⟩ : WeeklyWindow);
      windows.length < 256 ∧ (∀ w ∈ windows, w.start < 65536 ∧ w.length < 65536) ∧ ¬windows.length ≤ 8) ∧
    ¬((64 : Nat) ≤ 63) ∧ ¬((10080 : Nat) ≤ 10079) ∧ ¬(1 ≤ (0 : Nat)) ∧ ¬((10081 : Nat) ≤ 10080) ∧
    busy.addressed (one (scheduleBytes 63 [])) ∧ busy.broadcasted (every (scheduleBytes 64 [])) :=
  ⟨by decide +kernel, by decide +kernel, by decide, by decide, by decide, by decide, busy_one _, busy_every _⟩

/-- The running controller with a holiday list. -/
def onHolidays (days : List Nat) : State := { busy with holidays := days }

theorem witness_SchedulesAndHolidaysAreKept_holidays :
    (∀ days p, (onHolidays days).receives (one p) = true ∧ (onHolidays days).receives (every p) = true) ∧
      Rising (onHolidays [5]).holidays ∧
    Rising (onHolidays (List.range 31)).holidays ∧ Rising (onHolidays (List.range 32)).holidays ∧
    (dateOf 31 3 17).valid = true ∧ (dateOf 31 3 17).dayNumber ∉ (onHolidays (List.range 31)).holidays ∧
    (onHolidays (List.range 31)).holidays.length < 32 ∧ 32 ≤ (onHolidays (List.range 32)).holidays.length ∧
    (dateOf 0 1 1).valid = true ∧ (dateOf 0 1 1).dayNumber ∈ (onHolidays (List.range 32)).holidays ∧
    (dateOf 31 2 29).valid = false :=
  ⟨fun _ _ => ⟨rfl, rfl⟩, by unfold Rising; decide +kernel, by unfold Rising; decide +kernel,
    by unfold Rising; decide +kernel, by decide +kernel⟩

theorem witness_TablesStayWellFormed :
    let s := released.withCommand (.addHoliday (one [31, 3, 17]));
    s.permitsWf ∧ s.tablesWf ∧ s.rangesWf ∧ s.occupancyWf ∧ s.referencesWf ∧ s.pairingsWf ∧ s.countsWf ∧
      ∃ t, step s = .next t :=
  ⟨⟨by unfold permitSlotsWf Rising; decide +kernel, ⟨by decide +kernel, few_slots _ (by decide +kernel)⟩, nofun⟩,
    by unfold State.tablesWf Rising; decide +kernel, by unfold State.rangesWf; decide +kernel, released_occupancy,
    released_references, released_pairings, released_counts, next_of_gives _ (by decide +kernel)⟩

theorem witness_RevocationActsAtOnce :
    (∀ s ∈ [released, inside], credX ≠ 0 ∧ s.receives (one (bytesOfCredential credX)) = true ∧ s.occupancyWf ∧
      s.referencesWf ∧ s.supervisionWf ∧ s.pairingsWf ∧ s.doorsWf) ∧
    (credE ≠ 0 ∧ waitingE.receives (every (bytesOfCredential credE)) = true ∧ waitingE.occupancyWf ∧
      waitingE.referencesWf ∧ waitingE.supervisionWf ∧ waitingE.pairingsWf ∧ waitingE.doorsWf ∧
      credE ∈ waitingE.waiting) ∧
    (one (bytesOfCredential credX)).payload = bytesOfCredential credX := by
  refine ⟨?_, ⟨by decide, rfl, busy_occupancy, busy_references, by unfold State.supervisionWf; decide +kernel,
    waitingE_pairings, busy_doors, by decide +kernel⟩, rfl⟩
  intro s hs
  simp only [List.mem_cons, List.not_mem_nil, or_false] at hs
  rcases hs with rfl | rfl
  · exact ⟨by decide, rfl, released_occupancy, released_references, released_supervision, released_pairings,
      released_doors⟩
  · exact ⟨by decide, rfl, inside_occupancy, inside_references, inside_supervision,
      no_pairings _ (by decide +kernel), busy_doors⟩

/-- The running controller with an exact list and a filter. -/
def revoking (list : List Credential) (filter : List Nat) : State :=
  { busy with exactList := list, filter := filter }

theorem witness_RevocationsArePlaced :
    (∀ list filter p, (revoking list filter).addressed (one p) ∧ (revoking list filter).broadcasted (every p)) ∧
    (∀ list filter, (revoking list filter).membership credX = none ∧
      (revoking list filter).findEntry credX = none ∧ (revoking list filter).membership 0 = none ∧
      (revoking list filter).findEntry 0 = none) ∧
    (revoking [credX] []).exactList.Pairwise (· < ·) ∧ credX ∈ (revoking [credX] []).exactList ∧
    (fullList.tail.Pairwise (· < ·) ∧ credX ∉ fullList.tail ∧ fullList.tail.length < 256) ∧
    (fullList.Pairwise (· < ·) ∧ credX ∉ fullList ∧ 256 ≤ fullList.length) ∧
    (revoking fullList [593]).filter ≠ [] ∧ (revoking fullList []).filter = [] ∧
    positionOf credX ∈ (revoking [] [positionOf credX]).filter ∧
    positionOf credX ∉ (revoking [] []).filter ∧ (one (bytesOfCredential 0)).payload = bytesOfCredential 0 :=
  ⟨fun _ _ _ => ⟨takes_one _ _ rfl rfl rfl, takes_every _ _ rfl rfl⟩,
    fun _ _ => ⟨by rfl, by rfl, by rfl, by rfl⟩, by decide +kernel, by decide +kernel, by decide +kernel,
    by decide +kernel, nofun, rfl, by decide +kernel, nofun, rfl⟩

theorem witness_FilterIsCleared :
    busy.addressed (one []) ∧ (one []).payload = [] ∧ busy.broadcasted (every []) ∧ (every []).payload = [] :=
  ⟨busy_one _, rfl, busy_every _, rfl⟩

theorem witness_RoomSettingsAreStored :
    let ok (n use policy online : Byte) : Prop :=
      n.toNat ≤ 15 ∧ policy.toNat ≤ 2 ∧ ∀ b ∈ [use, 0, 1, online], b.toNat ≤ 1;
    ok 15 1 2 1 ∧ ¬ok 16 1 2 1 ∧ ¬ok 15 2 2 1 ∧ ¬ok 15 1 3 1 ∧ ¬ok 15 1 2 2 ∧
    (∀ p, busy.addressed (one p) ∧ halted.addressed (one p)) ∧ busy.run = .running ∧ halted.run = .stopped ∧
    (2 : RoomNo).val = (2 : Byte).toNat ∧ (halted.room 2).entries = [] ∧
    (let s : State := { inside with run := .stopped };
      s.addressed (one [2, 0, 0, 0, 0, 1, 0, 255]) ∧ s.run = .stopped ∧
        ¬((false = true ∨ (s.room 2).entries = []) ∧ (s.room 2).entries.length ≤ min (max 0 1) 32) ∧
        ((true = true ∨ (s.room 2).entries = []) ∧ (s.room 2).entries.length ≤ min (max 0 1) 32)) :=
  ⟨by decide, by decide, by decide, by decide, by decide, fun _ => ⟨busy_one _, halted_one _⟩, rfl, rfl, rfl,
    by decide +kernel, takes_one _ _ rfl rfl rfl, rfl, by decide +kernel, by decide +kernel⟩

theorem witness_OccupantsAreCleared :
    busy.addressed (one (bytesOfCredential 0)) ∧ (credX ≠ 0 ∧ busy.findEntry credX = none) ∧
    released.addressed (one (bytesOfCredential credX)) ∧ released.findEntry credX = some (2, entryX) ∧
    released.occupancyWf :=
  ⟨busy_one _, ⟨by decide, by decide +kernel⟩, takes_one _ _ rfl rfl rfl, by decide +kernel,
    released_occupancy⟩

theorem witness_RoomsAreCleared :
    busy.addressed (one [15]) ∧ (15 : Byte).toNat < 16 ∧ busy.addressed (one [16]) ∧ 16 ≤ (16 : Byte).toNat :=
  ⟨busy_one _, by decide, busy_one _, by decide⟩

theorem witness_OccupancyStaysExact :
    let s := ({ released with pairings := waitingE.pairings } : State).withCommand (.releaseTimerExpiry 3);
    (s.occupancyWf ∧ s.referencesWf ∧ s.pairingsWf) ∧ s.supervisionWf ∧ s.capsWf ∧ ∃ t, step s = .next t :=
  ⟨⟨released_occupancy, released_references,
    one_pairing _ 12 ⟨some memberE, [], 90000, 110000⟩ rfl (by decide +kernel) rfl (by decide +kernel)
      (by decide +kernel)⟩, released_supervision, by unfold State.capsWf; decide +kernel,
    next_of_gives _ (by decide +kernel)⟩

/-- The running controller with lone work barred in room 2, a CONFIRMED person of a role in it, and its state. -/
def barred (role : Role) (supervision : Supervision) : State :=
  { busy with rooms := busy.rooms.set 2 { roomOf .single with
      settings := { (roomOf .single).settings with loneBarred := true }, supervision := supervision
      entries := [{ entryX with state := .confirmed, role := role }] } }

theorem witness_SupervisionIsReported :
    let confirmed (s : State) (role : Role) : Nat :=
      ((s.room 2).entries.filter fun e => e.state = .confirmed ∧ e.role = role).length;
    let alone (s : State) : Prop :=
      (s.room 2).settings.loneBarred = true ∧ 0 < confirmed s .contractor ∧ confirmed s .escort = 0;
    (∀ state ∈ [Supervision.clear, .unescorted],
      ((barred .contractor state).room 2).supervision = state ∧ alone (barred .contractor state)) ∧
    ∀ state ∈ [Supervision.clear, .unescorted],
      ((barred .escort state).room 2).supervision = state ∧ ¬alone (barred .escort state) := by
  decide +kernel

theorem witness_DoorSettingsAreStored :
    let ok (n room entry exit use denies : Byte) : Prop :=
      n.toNat ≤ 15 ∧ room.toNat ≤ 15 ∧ entry.toNat ≤ 31 ∧
        (exit.toNat = 255 ∨ (1 ≤ exit.toNat ∧ exit.toNat ≤ 31)) ∧
        ∀ b ∈ [use, 1, 0, 1, 0, 1, 0, denies], b.toNat ≤ 1;
    ok 15 15 31 31 1 1 ∧ ok 0 0 0 255 0 0 ∧ ¬ok 16 0 0 1 0 0 ∧ ¬ok 0 16 0 1 0 0 ∧ ¬ok 0 0 32 1 0 0 ∧
    ¬ok 0 0 0 0 0 0 ∧ ¬ok 0 0 0 32 0 0 ∧ ¬ok 0 0 0 1 2 0 ∧ ¬ok 0 0 0 1 0 2 ∧
    (∀ p, busy.addressed (one p) ∧ halted.addressed (one p)) ∧ busy.run = .running ∧ halted.run = .stopped ∧
    halted.loop ≠ .silent ∧
    State.reset.run = .stopped ∧ State.reset.addressed (one [0]) ∧ State.reset.loop = .silent ∧
    State.reset.lastPolled = none ∧ State.reset.round = 0 ∧ (∀ a, State.reset.assignment a = none) ∧
    ∃ t, exec (.setDoor (one [3, 1, 2, 5, 255, 5, 0, 30, 0, 1, 1, 1, 0, 1, 0])) State.reset = .next t ∧
      decide ((∀ b : ReaderNo, b < 4 → t.assignment b = none) ∧ t.assignment 4 = some (3, .entry)) = true :=
  ⟨by decide, by decide, by decide, by decide, by decide, by decide, by decide, by decide, by decide,
    fun _ => ⟨busy_one _, halted_one _⟩, rfl, rfl, nofun, rfl, takes_one _ _ rfl rfl rfl, rfl, rfl, rfl,
    by decide +kernel, next_with _ _ (by decide +kernel)⟩

/-- The running controller with door 3 out of service. -/
def shut : State :=
  { busy with doors := busy.doors.set 3 { doorAt 2 4 5 with mode := .outOfService, state := .idle } }

/-- The part as it powers on, but that its silent loop holds counter 3 and reader 5 was OFFLINE. -/
def hushed (last : Option ReaderNo) : State :=
  { State.reset with
    round := 3, lastPolled := last
    readers := State.reset.readers.set 4 { Reader.powerOn with state := .offline, misses := 8 } }

theorem witness_DoorSettingsAreStored_named :
    ((busy.door 3).settings.inService = true ∧ (busy.door 3).settings.entryReader = some 4 ∧
      (busy.door 3).settings.exitReader = some 5 ∧ ∀ j : DoorNo, j < 3 → (busy.door j).settings.inService = false) ∧
    ∀ j, (busy.door j).settings.entryReader ≠ some 5 ∧ (busy.door j).settings.entryReader ≠ some 30 ∧
      (busy.door j).settings.exitReader ≠ some 30 := by
  decide +kernel

theorem witness_DoorSettingsAreStored_woken :
    (∀ last, (hushed last).addressed (one [3, 1, 2, 5, 255, 5, 0, 30, 0, 1, 1, 1, 0, 1, 0]) ∧
      (hushed last).run = .stopped ∧ (hushed last).loop = .silent) ∧
    gives (exec (.setDoor (one [3, 1, 2, 5, 255, 5, 0, 30, 0, 1, 1, 1, 0, 1, 0])) (hushed none)) (fun t =>
      t.assignment 4 == some (3, .entry) && t.loop == .quiet 15 && t.round == 3) = true ∧
    gives (exec (.setDoor (one [3, 1, 2, 5, 8, 5, 0, 30, 0, 1, 1, 1, 0, 1, 0])) (hushed (some 6))) (fun t =>
      t.assignment 7 == some (3, .exit) && t.loop == .poll 7 none 15 && t.round == 3) = true :=
  ⟨fun _ => ⟨takes_one _ _ rfl rfl rfl, rfl, rfl⟩, by decide +kernel, by decide +kernel⟩

theorem witness_DoorModesAreSet :
    (busy.receives (one [16, 0]) = true ∧ 16 ≤ (16 : Byte).toNat ∧ (16 : Byte).toNat ≠ 255) ∧
    (16 ≤ (254 : Byte).toNat ∧ (254 : Byte).toNat ≠ 255) ∧ 3 ≤ (3 : Byte).toNat ∧
    (released.receives (one [3, 1]) = true ∧ (3 : Byte) = byteOf (3 : DoorNo).val ∧ released.doorsWf ∧
      released.occupancyWf ∧ released.referencesWf ∧ released.supervisionWf ∧
      (released.door 3).mode ≠ .lockdown ∧ 4 ∉ ([3] : List DoorNo)) ∧
    (shut.receives (every [255, 0]) = true ∧ (255 : Byte) = 255 ∧ 3 ∈ List.finRange 16 ∧ shut.doorsWf ∧
      (shut.door 3).mode = .outOfService ∧ shut.run = .running ∧ (shut.door 3).settings.inService = true) ∧
    (waitingE.receives (one [12, 1]) = true ∧ waitingE.doorsWf ∧ (waitingE.door 12).mode ≠ .lockdown ∧
      (waitingE.pairing 12).isSome = true ∧ (waitingE.door 12).settings.entryReader = some 13 ∧
      waitingE.reaches 13 = true) :=
  ⟨by decide, by decide, by decide,
    ⟨rfl, rfl, released_doors, released_occupancy, released_references, released_supervision, nofun, by decide⟩,
    ⟨rfl, rfl, by decide +kernel, by unfold State.doorsWf DoorChannel.wf; decide +kernel, rfl, rfl, rfl⟩,
    rfl, busy_doors, nofun, rfl, rfl, by decide +kernel⟩

theorem witness_DoorsAreReleasedRemotely :
    (halted.addressed (one [byteOf 3]) ∧ halted.doorsWf ∧ halted.run = .stopped) ∧
    (busy.addressed (one [byteOf 15]) ∧ busy.doorsWf ∧ busy.run = .running ∧ (busy.door 15).state = .idle) ∧
    (busy.addressed (one [byteOf 3]) ∧ (busy.door 3).state ≠ .idle) ∧
    (busy.addressed (one [16]) ∧ 16 ≤ (16 : Byte).toNat ∧ halted.addressed (one [255])) :=
  ⟨⟨halted_one _, halted_doors, rfl⟩, ⟨busy_one _, busy_doors, rfl, rfl⟩, ⟨busy_one _, by decide +kernel⟩,
    busy_one _, by decide, halted_one _⟩

theorem witness_SoundersAreSilenced :
    busy.broadcasted (every [3]) ∧ (halted.addressed (one [3]) ∧ halted.run = .stopped) ∧
    (busy.addressed (one [16]) ∧ busy.run = .running ∧ 16 ≤ (16 : Byte).toNat) ∧
    busy.addressed (one [15]) ∧ (15 : Byte).toNat < 16 :=
  ⟨busy_every _, ⟨halted_one _, rfl⟩, ⟨busy_one _, rfl, by decide⟩, busy_one _, by decide⟩

theorem witness_DoorTimersRunOut :
    (busy.occupancyWf ∧ busy.referencesWf ∧ (busy.door 3).release = none) ∧
    (released.occupancyWf ∧ released.referencesWf ∧ released.supervisionWf ∧
      (released.door 3).release = some 105000) ∧
    ((busy.door 3).egress = none ∧
      ((doorIs .released fun d => { d with egress := some 105000 }).door 3).egress = some 105000) ∧
    (busy.door 3).allowance = none ∧
    (let s := doorIs .opened fun d => { d with allowance := some 130000 };
      (s.door 3).allowance = some 130000 ∧ (s.door 3).state = .opened) :=
  ⟨⟨busy_occupancy, busy_references, rfl⟩,
    ⟨released_occupancy, released_references, released_supervision, rfl⟩, ⟨rfl, by decide +kernel⟩, rfl,
    by decide +kernel⟩

theorem witness_DoorsStayWellFormed :
    let s := released.withCommand (.releaseTimerExpiry 3);
    s.doorsWf ∧ ∃ t, step s = .next t := ⟨released_doors, next_of_gives _ (by decide +kernel)⟩

/-- The running controller with one input changed. -/
def withInput (i : InputNo) (f : InputLine → InputLine) : State :=
  { busy with inputs := busy.inputs.set i (f busy.inputs[i]) }

/-- The same with its door's channel changed. -/
def withDoor (s : State) (k : DoorNo) (f : DoorChannel → DoorChannel) : State := s.modifyDoor k f

theorem witness_ContactsAndPressesAreTaken :
    (let s := withInput 7 fun x => { x with contact := .closed, steady := some 5 };
      (s.input 7).contact ≠ .opened ∧ (s.input 7).mode = .plain ∧ s.pinHeld = false ∧
        mappedLevel (s.input 7).polarity .opened = (s.input 7).level) ∧
    ((busy.input 7).contact ≠ .closed ∧ (busy.input 7).mode = .plain ∧ busy.pinHeld = false ∧
      mappedLevel (busy.input 7).polarity .closed ≠ (busy.input 7).level ∧ busy.checkTime 7 = some 20) ∧
    (let s : State := { busy with params := { busy.params with banks := #v[.off, .ms20, .ms20, .ms20] } };
      (s.input 7).contact ≠ .closed ∧ (s.input 7).mode = .plain ∧ s.pinHeld = false ∧
        mappedLevel (s.input 7).polarity .closed ≠ (s.input 7).level ∧ s.checkTime 7 = none) ∧
    ((withInput 7 fun x => { x with mode := .supervised }).input 7).mode = .supervised ∧ held.pinHeld = true ∧
    (busy.input 7).steady = none ∧
    (let s := withInput 7 fun x => { x with contact := .closed, steady := some 100020 };
      (s.input 7).steady = some 100020 ∧ (s.input 7).level = .normal ∧ (s.input 7).mapped = .active ∧
        (s.door 3).state ≠ .idle ∧ (s.door 3).settings.rexReleases = false) ∧
    (let s := withDoor (withInput 7 fun x => { x with contact := .closed, steady := some 100020 }) 3 fun d =>
        { d with settings := { d.settings with rexReleases := true } };
      (s.input 7).steady = some 100020 ∧ (s.input 7).level = .normal ∧ (s.input 7).mapped = .active ∧
        (s.door 3).state ≠ .idle ∧ (s.door 3).settings.rexReleases = true ∧
        (s.door 3).provisional.length ≤ 8) ∧
    (let s := withInput 31 fun x => { x with contact := .closed, steady := some 100020 };
      (s.input 31).steady = some 100020 ∧ (s.door 15).state = .idle) ∧
    (let s := withInput 7 fun x => { x with level := .active, steady := some 100020 };
      (s.input 7).steady = some 100020 ∧ ¬((s.input 7).level = .normal ∧ (s.input 7).mapped = .active)) := by
  decide +kernel

/-- The running controller with door 3 in a state and its door-position input about to bring a level. -/
def nearing (state : DoorState) (level : Level) (contact : Contact) : State :=
  withDoor (withInput 6 fun x => { x with level := level, contact := contact, steady := some 100020 }) 3
    fun d => { d with state := state }

theorem witness_DoorPositionsAreTaken :
    (let s := withInput 6 fun x => { x with contact := .opened, steady := some 100020 };
      (s.input 6).steady = some 100020 ∧ (s.input 6).level = .normal ∧ (s.input 6).mapped = .active ∧
        (s.door 3).state = .secure ∧ s.occupancyWf ∧ s.referencesWf) ∧
    (let s : State := { released with
        inputs := (withInput 6 fun x => { x with contact := .opened, steady := some 100020 }).inputs };
      (s.input 6).steady = some 100020 ∧ (s.input 6).level = .normal ∧ (s.input 6).mapped = .active ∧
        (s.door 3).state = .released ∧ s.occupancyWf ∧ s.referencesWf ∧ s.supervisionWf ∧
        ∀ q, q ≠ s.roomOf 3 → ∀ e ∈ (s.room q).entries, ¬(e.state = .provisional ∧ e.door = 3)) ∧
    (let s := withInput 30 fun x => { x with contact := .opened, steady := some 100020 };
      (s.input 30).steady = some 100020 ∧ (s.input 30).level = .normal ∧ (s.input 30).mapped = .active ∧
        (s.door 15).state = .idle ∧ s.occupancyWf ∧ s.referencesWf) :=
  ⟨⟨rfl, rfl, rfl, rfl, busy_occupancy, busy_references⟩,
    ⟨rfl, rfl, rfl, rfl, released_occupancy, released_references, released_supervision, by decide +kernel⟩,
    rfl, rfl, rfl, rfl, busy_occupancy, busy_references⟩

theorem witness_DoorPositionsAreTaken_levels :
    (∀ state ∈ [DoorState.opened, .held, .forced, .idle], let s := nearing state .active .closed;
      (s.input 6).steady = some 100020 ∧ (s.input 6).level = .active ∧ (s.input 6).mapped = .normal ∧
        (s.door 3).state = state) ∧
    (let s := nearing .secure .unclassified .closed;
      (s.input 6).steady = some 100020 ∧ (s.input 6).level = .unclassified ∧ (s.input 6).mapped = .normal) ∧
    (let s := nearing .opened .unclassified .opened;
      (s.input 6).level = .unclassified ∧ (s.door 3).state ≠ .secure ∧ (s.door 3).state ≠ .released) ∧
    (let s := nearing .secure .unclassified .opened;
      (s.input 6).level = .unclassified ∧ (s.input 6).mapped = .active ∧ (s.door 3).state = .secure ∧
        (s.door 3).release = none) ∧
    (let s : State := { released with inputs := (nearing .secure .unclassified .opened).inputs };
      (s.input 6).steady = some 100020 ∧ (s.input 6).level = .unclassified ∧ (s.input 6).mapped = .active ∧
        (s.door 3).state = .released ∧ (s.door 3).release ≠ none ∧ s.occupancyWf ∧ s.referencesWf ∧
        s.supervisionWf) ∧
    (let s := nearing .secure .normal .closed;
      (s.input 6).steady = some 100020 ∧ (s.input 6).mapped = (s.input 6).level) :=
  ⟨by decide +kernel, by decide +kernel, by decide +kernel, by decide +kernel,
    ⟨by decide +kernel, by decide +kernel, by decide +kernel, rfl, nofun, released_occupancy,
      released_references, released_supervision⟩, by decide +kernel⟩

theorem witness_ScannerPassesMeasure :
    held.pinHeld = true ∧ busy.pinHeld = false ∧ (∀ i, (busy.input i).mode = .plain) ∧
    (let s := withInput 6 fun x => { x with mode := .supervised, accepted := some .normal };
      s.pinHeld = false ∧ (s.input 6).mode = .supervised ∧ (s.input 6).accepted ≠ some .active ∧
      s.params.classOf 499 = none ∧ s.params.classOf 500 = some .active ∧
      s.params.classOf 79 = some .short ∧ s.params.classOf 850 = some .cut ∧
      s.params.classOf 80 = (s.input 6).accepted ∧ 1 < s.params.confirmCount) ∧
    (let s := withInput 6 fun x => { x with
        mode := .supervised, accepted := some .short, fault := .short, candidate := some .active, run := 1 };
      s.pinHeld = false ∧ (s.input 6).mode = .supervised ∧ s.params.classOf 500 = some .active ∧
      (s.input 6).accepted ≠ some .active ∧ (s.input 6).candidate = some .active ∧
      s.params.confirmCount ≤ (s.input 6).run + 1 ∧ (∀ j, j ≠ 6 → (s.input j).mode = .plain) ∧
      LineClass.active.level = some (mappedLevel (s.input 6).polarity .opened) ∧
      mappedLevel (s.input 6).polarity .opened ≠ (s.input 6).level) ∧
    (let s := withInput 6 fun x => { x with
        mode := .supervised, accepted := some .normal, candidate := some .cut, run := 1 };
      s.params.classOf 1023 = some .cut ∧ (s.input 6).accepted ≠ some .cut ∧
      s.params.confirmCount ≤ (s.input 6).run + 1 ∧ LineClass.cut.level = none) ∧
    (let s : State := { withInput 6 (fun x => { x with
        mode := .supervised, accepted := some .short, fault := .short, candidate := some .active, run := 1 }) with
        params := { busy.params with confirmCount := 1 } };
      let u := s.modifyInput 7 fun x => { x with mode := .supervised };
      u.pinHeld = false ∧ ∀ i ∈ [(6 : InputNo), 7], (u.input i).mode = .supervised ∧
        (u.input i).accepted ≠ some .active ∧ u.params.confirmCount ≤
          if (u.input i).candidate = some .active then (u.input i).run + 1 else 1) := by
  decide +kernel

theorem witness_InputsAreConfigured :
    let ok (n m p : Byte) : Prop := n.toNat ≤ 31 ∧ m.toNat ≤ 1 ∧ p.toNat ≤ 1;
    ok 31 1 1 ∧ ¬ok 32 0 0 ∧ ¬ok 0 2 0 ∧ ¬ok 0 0 2 ∧
    (∀ p, busy.addressed (one p) ∧ halted.addressed (one p)) ∧ busy.run = .running ∧ halted.run = .stopped ∧
    halted.doorsWf ∧ ((halted.input 6).mode = .plain ∧ (halted.input 6).polarity = .normallyClosed) ∧
    halted.checkTime 6 = some 20 ∧
    (let s : State := { halted with params := { halted.params with banks := #v[.off, .ms20, .ms20, .ms20] } };
      s.doorsWf ∧ s.checkTime 6 = none) ∧
    (let s : State := { halted with
        inputs := (withInput 6 fun x => { x with mode := .supervised, fault := .cut }).inputs };
      s.doorsWf ∧ (s.input 6).mode = .supervised ∧ (s.input 6).fault ≠ .none) :=
  ⟨by decide, by decide, by decide, by decide, fun _ => ⟨busy_one _, halted_one _⟩, rfl, rfl, halted_doors,
    ⟨rfl, rfl⟩, by decide +kernel, ⟨halted_doors, by decide +kernel⟩, halted_doors, rfl, nofun⟩

theorem witness_LinesStayWellFormed :
    let s := released.withCommand .replyWindowExpiry;
    s.inputsWf ∧ s.readersWf ∧ ∃ t, step s = .next t := by
  refine ⟨?_, by unfold State.readersWf Reader.wf; decide +kernel, next_of_gives _ (by decide +kernel)⟩
  intro i
  have h : ∀ i, (busy.input i).mode = .plain ∧ (busy.input i).fault = .none ∧
      (busy.input i).lastValue = none ∧ (busy.input i).accepted = none ∧ (busy.input i).candidate = none ∧
      (busy.input i).run = 0 := by decide +kernel
  show (busy.input i).wf
  rw [InputLine.wf, (h i).1]
  exact (h i).2

/-- X entered room 2 by door 3 and leaves by door 5, which names reader 22 as its exit reader: EXIT of the entry
door (R96) and of that reader (R66). -/
theorem test_exit_by_another_door :
    let s : State := { inside with
      doors := inside.doors.set 5 (doorAt 2 20 21), loop := .poll 21 none 100015, lastPolled := some 21 };
    gives (exec (.replyReceived (replyFrame 21 false (some credX))) s) (fun t =>
      t.queue.map (fun x => (x.report.kind, x.report.door, x.report.room, x.report.reader)) ==
        [(.exit, some 3, some 2, some 21)]) = true := by
  decide +kernel

theorem witness_PollsAreJudged :
    busy.loop = .poll 4 none 100015 ∧ judgeReply 4 [9, 9, 9, 9] = .checkFailure ∧
    [(1 : Byte), 2, 3].length < 4 ∧ State.reset.loop = .silent ∧
    ({ busy with loop := .quiet 5 } : State).loop = .quiet 5 ∧
    (let s : State := { busy with readers := busy.readers.set 4 { busy.readers[4] with last := some ⟨credX, 98001⟩ } };
      s.loop = .poll 4 none 100015 ∧ (s.reader 4).last = some ⟨credX, 98001⟩ ∧
        s.now < 98001 + s.params.repeatInterval * 1000) ∧
    (busy.anyAssigned = true ∧ busy.lastPolled = some 4 ∧ busy.round ≤ 7 ∧
      (busy.assignment 5).isSome = true ∧ (busy.reader 5).state ≠ .offline ∧ 5 ∈ busy.roundReaders) ∧
    (let s : State := { busy with loop := .poll 14 none 100015, lastPolled := some 14, round := 7 };
      s.loop = .poll 14 none 100015 ∧ s.anyAssigned = true ∧ s.lastPolled = some 14 ∧ s.round ≤ 7 ∧
        ∀ b : ReaderNo, 14 < b → s.assignment b = none) ∧
    (let s : State := { State.reset with loop := .poll 4 none 15 };
      s.loop = .poll 4 none 15 ∧ s.anyAssigned = false) :=
  ⟨rfl, by decide +kernel, by decide, rfl, rfl, by decide +kernel, by decide +kernel, by decide +kernel,
    by decide +kernel⟩

theorem witness_QuietIntervalsEndRounds :
    (let s : State := { State.reset with loop := .quiet 5 };
      s.loop = .quiet 5 ∧ s.anyAssigned = false) ∧
    (let s : State := { busy with loop := .quiet 5, round := 7 };
      s.loop = .quiet 5 ∧ s.anyAssigned = true ∧ s.round ≤ 7 ∧ (s.assignment 4).isSome = true ∧
        (s.reader 4).state ≠ .offline ∧ ∀ b : ReaderNo, b < 4 → (s.assignment b).isSome = false) ∧
    (let s : State := { busy with
        loop := .quiet 5, round := 0, readers := Vector.replicate 31 { Reader.powerOn with state := .offline } };
      s.loop = .quiet 5 ∧ s.anyAssigned = true ∧
        ∀ a : ReaderNo, ¬((s.assignment a).isSome = true ∧ ((s.reader a).state ≠ .offline ∨ s.round + 1 = 0))) := by
  decide +kernel

/-- The running controller as it would be were door 3's channel, room 2 and slot 102 changed. -/
def presenting (d : DoorChannel → DoorChannel) (x : Room → Room) (p : PermitSlot) : State :=
  { busy with
    doors := busy.doors.set 3 (d (busy.door 3)), rooms := busy.rooms.set 2 (x (busy.room 2))
    permits := [(102, p)] }

/-- A room with X CONFIRMED in it, and a waiting contractor. -/
def holdingX (x : Room) : Room := { x with entries := [{ entryX with state := .confirmed }] }
def memberY (n : Nat) : Member := ⟨BitVec.ofNat 32 (n + 1), n, 7⟩

/-- The hypotheses that every clause of the denials at door 3 shares. -/
def presents (s : State) : Bool :=
  s.loop == .poll 4 none 100015 && (s.reader 4).state != .offline && s.assignment 4 == some (3, .entry) &&
    !s.repeats 4 credX

/-- Those of the clauses that come after the door's and the revocation's checks. -/
def considers (s : State) : Bool :=
  presents s && s.run == .running && (s.door 3).mode == .normal && !(s.door 3).settings.denyOnFault &&
    !s.exactList.contains credX && !s.filter.contains (positionOf credX) && s.clock.state == .set

/-- Those of the clauses that come after the permit search: slot 102 alone, and it passes. -/
def qualifies (s : State) : Bool :=
  considers s && s.permits.map Prod.fst == [102] &&
    s.permits.all fun e => e.2.permit.credential == credX && (s.checkSlot 2 s.clock e.1 e.2).isNone

theorem witness_PresentationsAreDenied :
    let x : PermitSlot := ⟨.active, passX, 0⟩;
    (let s : State := { busy with loop := .poll 0 none 100015 };
      (s.reader 0).state ≠ .offline ∧ s.repeats 0 credX = false ∧ s.assignment 0 = none) ∧
    (let s : State := { halted with loop := .poll 4 none 100015 }; presents s = true ∧ s.run = .stopped) ∧
    (presents shut = true ∧ shut.run = .running ∧ (shut.door 3).mode = .outOfService) ∧
    (let s := presenting (fun d => { d with mode := .lockdown }) id x;
      presents s = true ∧ s.run = .running ∧ (s.door 3).mode = .lockdown) ∧
    (let s : State := { presenting (fun d => { d with settings := { d.settings with denyOnFault := true } }) id x with
        inputs := (withInput 6 fun x => { x with fault := .cut }).inputs };
      presents s = true ∧ (s.door 3).settings.denyOnFault = true ∧ (s.input 6).fault ≠ .none) ∧
    (let s := revoking [credX] []; presents s = true ∧ credX ≠ 0 ∧ credX ∈ s.exactList) ∧
    (let s := revoking [] [positionOf credX];
      presents s = true ∧ credX ∉ s.exactList ∧ positionOf credX ∈ s.filter) := by
  decide +kernel

theorem witness_PresentationsAreDenied_permits :
    (let s : State := { busy with permits := [] };
      considers s = true ∧ s.permits.filter (fun e => e.2.permit.credential == credX) = []) ∧
    (let s : State := { busy with clock := { busy.clock with state := .unset } };
      presents s = true ∧ s.permits.filter (fun e => e.2.permit.credential == credX) ≠ [] ∧
        s.clock.state = .unset ∧ s.params.policy = .deny) ∧
    (let y : PermitSlot := ⟨.suspended, { passX with workOrder := 1 }, 0⟩;
      let z : PermitSlot := ⟨.active, passX, 2⟩;
      let s : State := { busy with permits := [(101, y), (102, z)] };
      considers s = true ∧ s.permits.filter (fun e => e.2.permit.credential == credX) = [(101, y)] ++ (102, z) :: [] ∧
        s.checkSlot 2 s.clock 102 z = some .allowanceUsed ∧ s.checkSlot 2 s.clock 101 y = some .suspended) := by
  decide +kernel

theorem witness_PresentationsAreDenied_rooms :
    let x : PermitSlot := ⟨.active, passX, 0⟩;
    (let s : State := { presenting id
          (fun q => { q with settings := { q.settings with onlineOnly := true } }) x with link := .offline };
      qualifies s = true ∧ passX.role = .contractor ∧ (s.room 2).settings.onlineOnly = true ∧ s.link = .offline) ∧
    (let s := presenting id (fun q => holdingX { q with settings := { q.settings with passback := true } }) x;
      qualifies s = true ∧ s.findEntry credX = some (2, { entryX with state := .confirmed }) ∧
        (s.room 2).settings.passback = true) ∧
    (let s := presenting id (fun q => { q with
          settings := { q.settings with cap := 1 }, entries := [{ entryX with credential := credE }] }) x;
      qualifies s = true ∧ s.findEntry credX = none ∧ (s.room 2).settings.cap ≤ (s.room 2).entries.length) ∧
    (let s : State := { presenting id (fun q => { q with settings := { q.settings with cap := 0 } }) x with
        rooms := (busy.rooms.set 2 { busy.room 2 with settings := { (busy.room 2).settings with cap := 0 } }).set 9
          (holdingX (busy.room 9)) };
      qualifies s = true ∧ s.findEntry credX = some (9, { entryX with state := .confirmed }) ∧
        (s.room 2).settings.cap ≤ (s.room 2).entries.length) ∧
    (let s := presenting id (fun q => { q with
          settings := { q.settings with cap := 1 }
          entries := [{ entryX with credential := credE }, { entryX with door := 4 }] }) x;
      qualifies s = true ∧ s.findEntry credX = some (2, { entryX with door := 4 }) ∧
        (s.room 2).settings.cap < (s.room 2).entries.length) ∧
    (let s : State := { presenting id id x with
        rooms := busy.rooms.set 9 { busy.room 9 with entries := List.replicate 128 { entryX with credential := 7 } } };
      qualifies s = true ∧ s.findEntry credX = none ∧ ¬(s.room 2).settings.cap ≤ (s.room 2).entries.length ∧
        128 ≤ s.totalEntries) := by
  decide +kernel

theorem witness_PresentationsAreDenied_doors :
    let x : PermitSlot := ⟨.active, passX, 0⟩;
    (let s := presenting (fun d => { d with provisional := List.replicate 8 7 }) id x;
      qualifies s = true ∧ s.mayEnter 3 credX ∧ s.grantsAlone 2 ∧ (s.door 3).state = .secure ∧
        8 ≤ (s.door 3).provisional.length) ∧
    (let s : State := { presenting (fun d => { d with provisional := List.replicate 8 7 }) id x with
        rooms := (presenting id id x).rooms.set 9 (holdingX (busy.room 9)) };
      qualifies s = true ∧ s.mayEnter 3 credX ∧ (s.findEntry credX).isSome = true) ∧
    (let s : State := { presenting id (fun q => { q with settings := { q.settings with policy := .escortPresent } }) x with
        pairings := Vector.ofFn fun k =>
          if 8 ≤ k.val then some ⟨none, [memberY k.val], 0, 0⟩ else none };
      qualifies s = true ∧ s.mayEnter 3 credX ∧ s.pairsUp 2 ∧ s.pairing 3 = none ∧ 8 ≤ s.openPairings) ∧
    (let p : PairingRecord := ⟨none, [memberY 1, memberY 2, memberY 3, memberY 4], 0, 0⟩;
      let s : State := { presenting id (fun q => { q with settings := { q.settings with policy := .escorted } }) x with
        pairings := busy.pairings.set 3 (some p) };
      qualifies s = true ∧ s.mayEnter 3 credX ∧ s.pairsUp 2 ∧ s.pairing 3 = some p ∧ p.escort = none ∧
        4 ≤ p.contractors.length ∧ ∀ m ∈ p.contractors, m.credential ≠ credX) := by
  refine ⟨⟨?_, .inl ?_, .inl ?_, ?_⟩, ⟨?_, .inr ⟨9, { entryX with state := .confirmed }, ?_, .inl ?_⟩, ?_⟩,
    ⟨?_, .inl ?_, .inr ⟨?_, ?_⟩, ?_⟩, ?_, .inl ?_, .inl ?_, ?_⟩ <;> try unfold State.escorted
  all_goals decide +kernel

theorem witness_ExitsAreTaken :
    (let s : State := { released with loop := .poll 5 none 100015 };
      s.loop = .poll 5 none 100015 ∧ s.assignment 5 = some (3, .exit) ∧ s.repeats 5 credX = false ∧
        (s.reader 5).state ≠ .offline ∧ (s.room (s.roomOf 3)).entries = [] ++ entryX :: [] ∧
        entryX.credential = credX) ∧
    (released.occupancyWf ∧ released.referencesWf ∧ released.doorsWf) ∧
    (let s : State := { busy with loop := .poll 5 none 100015 };
      s.repeats 5 credX = false ∧ ∀ e ∈ (s.room (s.roomOf 3)).entries, e.credential ≠ credX) :=
  ⟨⟨rfl, by decide +kernel, by decide +kernel, by decide +kernel, rfl, rfl⟩,
    ⟨released_occupancy, released_references, released_doors⟩, by decide +kernel⟩

/-- The hypotheses that the clauses of a lone grant to X at door 3 share. -/
def grants (s : State) : Bool :=
  s.loop == .poll 4 none 100015 && s.assignment 4 == some (3, .entry) && !s.repeats 4 credX &&
    s.stage1 3 == none && s.stage2 credX == none &&
    s.searchPermits 2 s.clock (s.slotsOf credX) == .qualifies ⟨102, passX⟩ && s.roomOf 3 == 2 &&
    !s.needsHeadEnd 2 passX.role && (s.door 3).state != .idle && (s.reader 4).state != .offline &&
    !s.waiting.contains credX

theorem witness_SingleEntriesAreGranted :
    (grants busy = true ∧ busy.grantsAlone 2 ∧ busy.findEntry credX = none ∧
      busy.entryCount 2 < (busy.room 2).settings.cap ∧ busy.totalEntries < 128 ∧
      (busy.door 3).provisional.length < 8 ∧ busy.pairingsWf) ∧
    (let s := doorIs .held id; grants s = true ∧ (s.door 3).state = .held) ∧
    (let s : State := { busy with
        rooms := busy.rooms.set 2 { (roomOf .escortPresent) with
          entries := [{ entryX with credential := credE, role := .escort, state := .confirmed }] } };
      grants s = true ∧ s.findEntry credX = none ∧ s.grantsAlone 2) ∧
    (let s : State := { busy with rooms := busy.rooms.set 9 { (roomOf .escorted) with
          entries := [{ entryX with door := 12, state := .confirmed }] } };
      grants s = true ∧ s.findEntry credX = some (9, { entryX with door := 12, state := .confirmed }) ∧
        s.entryCount 2 < (s.room 2).settings.cap ∧ s.occupancyWf ∧ s.referencesWf ∧ s.pairingsWf) ∧
    (grants released = true ∧ released.findEntry credX = some (2, entryX) ∧ entryX.state = .provisional ∧
      entryX.door = 3) ∧
    (grants inside = true ∧ (inside.findEntry credX).map Prod.fst = some 2 ∧
      (inside.room 2).settings.passback = false ∧ (inside.door 3).provisional.length ≤ 8) := by
  refine ⟨⟨by decide +kernel, .inl rfl, by decide +kernel, by decide +kernel, by decide +kernel, by decide +kernel,
    no_pairings _ (by decide +kernel)⟩, by decide +kernel, ⟨by decide +kernel, by decide +kernel, .inr ⟨rfl, ?_⟩⟩,
    ⟨by decide +kernel, by decide +kernel, by decide +kernel, by unfold State.occupancyWf; decide +kernel,
      referencesWf_of_lists _ (by decide +kernel) (by decide +kernel) (by decide +kernel),
      no_pairings _ (by decide +kernel)⟩, by decide +kernel, by decide +kernel⟩
  unfold State.escorted
  decide +kernel

/-- The running controller with reader 14 of the ESCORTED room polled, and a record at its door. -/
def paired (p : Option PairingRecord) : State :=
  { waitingE with pairings := busy.pairings.set 12 p }

/-- The hypotheses that every clause about an arrival at door 12 shares. -/
def arrives (p : Option PairingRecord) (c : Credential) (q : Qualifying) : Prop :=
  (paired p).qualifiesAt 13 12 c q ∧ (paired p).mayEnter 12 c ∧ (paired p).pairsUp ((paired p).roomOf 12)

theorem arrives_of (p : Option PairingRecord) (c : Credential) (q : Qualifying)
    (h : (paired p).repeats 13 c = false ∧ (paired p).stage2 c = none ∧ (paired p).findEntry c = none ∧
      (paired p).searchPermits 9 (paired p).clock ((paired p).slotsOf c) = .qualifies q ∧
      (paired p).entryCount 9 < ((paired p).room 9).settings.cap ∧ (paired p).totalEntries < 128) :
    arrives p c q :=
  ⟨⟨⟨_, _, rfl⟩, rfl, h.1, nofun, rfl, h.2.1, h.2.2.2.1, by cases q.permit.role <;> rfl⟩,
    .inl ⟨h.2.2.1, h.2.2.2.2⟩, .inl rfl⟩

theorem paired_wf (p : PairingRecord) (hp : p.wf) (ho : (paired (some p)).openPairings ≤ 8)
    (hw : (paired (some p)).waiting.Nodup) : (paired (some p)).pairingsWf := by
  refine one_pairing _ 12 p rfl (fun j => ?_) hp ho hw
  have h : ∀ j, busy.pairing j = none := by decide +kernel
  have h' := h j
  simp only [State.pairing] at h' ⊢
  simp [paired, Fin.getElem_fin, Vector.getElem_set] at *
  split <;> simp_all [Fin.ext_iff, eq_comm]

/-- Another escort, and X as a member. -/
def memberF : Member := ⟨77, 1600, 0⟩
def memberX : Member := ⟨credX, 102, 512300⟩

theorem witness_EscortedArrivalsWait :
    (arrives none credX ⟨102, passX⟩ ∧ (paired none).pairingsWf ∧ (paired none).pairing 12 = none ∧
      (paired none).openPairings < 8) ∧
    (let p : PairingRecord := ⟨none, [memberY 1, memberY 2, memberY 3], 90000, 110000⟩;
      arrives (some p) credX ⟨102, passX⟩ ∧ (paired (some p)).pairingsWf ∧ (paired (some p)).pairing 12 = some p ∧
        passX.role = .contractor ∧
        p.contractors.length < 4 ∧ ∀ x ∈ p.escort.toList ++ p.contractors, x.credential ≠ credX) ∧
    (let p : PairingRecord := ⟨some memberF, [], 90000, 110000⟩;
      arrives (some p) credE ⟨1500, passE⟩ ∧ (paired (some p)).pairingsWf ∧ passE.role = .escort ∧
        ∀ x ∈ p.escort.toList ++ p.contractors, x.credential ≠ credE) ∧
    (let p : PairingRecord := ⟨none, [memberX], 90000, 110000⟩;
      arrives (some p) credX ⟨102, passX⟩ ∧ (paired (some p)).pairingsWf ∧ ∃ x ∈ p.escort.toList ++ p.contractors,
        x.credential = credX) := by
  refine ⟨⟨arrives_of _ _ _ (by decide +kernel), no_pairings _ (by decide +kernel), rfl, by decide +kernel⟩,
    ⟨arrives_of _ _ _ (by decide +kernel),
      paired_wf _ (by unfold PairingRecord.wf; decide) (by decide +kernel) (by decide +kernel), rfl, by decide⟩,
    ⟨arrives_of _ _ _ (by decide +kernel), paired_wf _ rfl (by decide +kernel) (by decide +kernel), by decide⟩,
    arrives_of _ _ _ (by decide +kernel),
      paired_wf _ (by unfold PairingRecord.wf; decide) (by decide +kernel) (by decide +kernel), by decide⟩

theorem witness_HeldMembersAreRechecked :
    let slots (s : State) (role : Role) := s.permits.filter fun e =>
      e.2.permit.credential == credX && e.2.permit.role == role;
    (credX ≠ 0 ∧ credX ∈ (revoking [credX] []).exactList) ∧
    (credX ∉ (revoking [] [positionOf credX]).exactList ∧
      positionOf credX ∈ (revoking [] [positionOf credX]).filter) ∧
    slots busy .escort = [] ∧ slots busy .contractor = [] ++ (102, ⟨.active, passX, 0⟩) :: [] ∧
    (State.reset.clock.state = .unset ∧ busy.params.policy = .deny) ∧ busy.clock.state = .set ∧
    busy.checkSlot 2 busy.clock 102 ⟨.active, passX, 0⟩ = none ∧
    busy.checkSlot 3 busy.clock 102 ⟨.active, passX, 0⟩ = some .wrongRoom ∧
    (let s : State := { inside with
        rooms := inside.rooms.set 2 { inside.room 2 with
          settings := { (inside.room 2).settings with passback := true, onlineOnly := true } } };
      s.findEntry credX = some (2, { entryX with state := .confirmed, confirmed := some 16413965 }) ∧
        (s.room 2).settings.passback = true ∧ (s.room 2).settings.onlineOnly = true ∧
        ({ s with link := .offline } : State).link = .offline) := by
  decide +kernel

theorem witness_GroupsAreCompleted :
    (let p : PairingRecord := ⟨some memberE, [], 90000, 110000⟩;
      let s := paired (some p);
      arrives (some p) credX ⟨102, passX⟩ ∧ s.pairingsWf ∧ s.occupancyWf ∧ s.referencesWf ∧ s.pairing 12 = some p ∧
        (∀ x ∈ p.escort.toList ++ p.contractors, x.credential ≠ credX) ∧
        (passX.role = .contractor ↔ p.escort.isSome = true) ∧
        s.recheck 12 s.clock .escort memberE = .passed ⟨1500, passE⟩ ∧ (s.door 12).state ≠ .idle ∧
        ¬(s.room 9).settings.cap < s.entryCount 9 + 2 ∧
        { s with exactList := [credE] }.recheck 12 s.clock .escort memberE = .failed .revoked (some (1500, 0)) ∧
        (let u : State := { s with rooms := s.rooms.set 9 { (roomOf .escorted) with
            settings := { (roomOf .escorted).settings with cap := 1 } } };
          u.recheck 12 u.clock .escort memberE = .passed ⟨1500, passE⟩ ∧ u.mayEnter 12 credX ∧
            (u.room 9).settings.cap < u.entryCount 9 + 2)) ∧
    (let p : PairingRecord := ⟨none, [memberX, memberY 1], 90000, 110000⟩;
      let s := paired (some p);
      arrives (some p) credE ⟨1500, passE⟩ ∧ s.pairingsWf ∧ s.pairing 12 = some p ∧
        (∀ x ∈ p.escort.toList ++ p.contractors, x.credential ≠ credE) ∧
        (passE.role = .contractor ↔ p.escort.isSome = true) ∧
        s.recheck 12 s.clock .contractor memberX = .passed ⟨102, passX⟩ ∧
        s.recheck 12 s.clock .contractor (memberY 1) = .failed .unknownCredential (some (1, 7))) ∧
    (let p : PairingRecord := ⟨none, [memberY 1], 90000, 110000⟩;
      arrives (some p) credE ⟨1500, passE⟩ ∧ (paired (some p)).pairingsWf ∧
        (paired (some p)).recheck 12 busy.clock .contractor (memberY 1) =
          .failed .unknownCredential (some (1, 7))) := by
  refine ⟨⟨arrives_of _ _ _ (by decide +kernel), paired_wf _ rfl (by decide +kernel) (by decide +kernel),
      busy_occupancy, busy_references, rfl, by decide, by decide, by decide +kernel, by decide +kernel,
      by decide +kernel, by decide +kernel, by decide +kernel, .inl (by decide +kernel), by decide +kernel⟩,
    ⟨arrives_of _ _ _ (by decide +kernel),
      paired_wf _ (by unfold PairingRecord.wf; decide) (by decide +kernel) (by decide +kernel), rfl, by decide,
      by decide, by decide +kernel, by decide +kernel⟩,
    arrives_of _ _ _ (by decide +kernel),
      paired_wf _ (by unfold PairingRecord.wf; decide) (by decide +kernel) (by decide +kernel), by decide +kernel⟩

theorem witness_PairingsTimeOut :
    busy.pairing 12 = none ∧ waitingE.pairing 12 = some ⟨some memberE, [], 90000, 110000⟩ ∧
    (waitingE.door 12).settings.entryReader = some 13 ∧ waitingE.reaches 13 = true :=
  ⟨rfl, rfl, rfl, by decide +kernel⟩

/-- The stopped controller with its doors' settings changed. -/
def haltedWith (f : DoorSettings → DoorSettings) : State :=
  { halted with doors := halted.doors.set 3 { halted.doors[3] with settings := f halted.doors[3].settings } }

theorem witness_ControllerStarts :
    (busy.receives (one []) = true ∧ busy.receives (every []) = true ∧ busy.run = .running) ∧
    (let s := haltedWith fun x => { x with entryReader := none };
      s.receives (every []) = true ∧ s.run = .stopped ∧ s.startFault = some (2, 3)) ∧
    (halted.receives (every []) = true ∧ halted.run = .stopped ∧ halted.startFault = none ∧ halted.doorsWf ∧
      ∀ k, (halted.door k).egress = none) ∧
    (let s := haltedWith fun x => { x with room := 15 };
      (s.door 3).settings.inService = true ∧ (s.room (s.roomOf 3)).settings.inUse = false ∧
        ∀ j : DoorNo, j < 3 → (s.door j).settings.inService = false) ∧
    (let s := haltedWith fun x => { x with exitReader := some 4 };
      (s.door 3).settings.entryReader = some 4 ∧ (s.door 3).settings.exitReader = some 4) :=
  ⟨⟨rfl, rfl, rfl⟩, ⟨rfl, rfl, by decide +kernel⟩,
    ⟨rfl, rfl, by decide +kernel, halted_doors, by decide +kernel⟩, by decide +kernel, by decide +kernel⟩

theorem witness_ControllerStops :
    (halted.receives (one []) = true ∧ (one []).payload = [] ∧ halted.occupancyWf ∧ halted.referencesWf ∧
      halted.supervisionWf ∧ halted.run = .stopped) ∧
    (released.receives (every []) = true ∧ released.occupancyWf ∧ released.referencesWf ∧
      released.supervisionWf ∧ released.run = .running) ∧
    (waitingE.receives (one []) = true ∧ waitingE.occupancyWf ∧ waitingE.referencesWf ∧ waitingE.run = .running ∧
      (waitingE.pairing 12).isSome = true ∧ (waitingE.door 12).settings.entryReader = some 13 ∧
      waitingE.reaches 13 = true) :=
  ⟨⟨rfl, rfl, by unfold State.occupancyWf; decide +kernel,
      referencesWf_of_lists _ (by decide +kernel) (by decide +kernel) (by decide +kernel),
      by unfold State.supervisionWf; decide +kernel, rfl⟩,
    ⟨rfl, released_occupancy, released_references, released_supervision, rfl⟩,
    rfl, busy_occupancy, busy_references, rfl, rfl, rfl, by decide +kernel⟩

theorem witness_ParametersAreStored :
    (let payload (po b0 op : Byte) : List Byte := [255, 11, 3, 0, po, b0, 5, 0, 1, 0, 1, 0, 2, 0, 3, op, 255, 9];
      let ok (po b0 op : Byte) : Prop := po.toNat ≤ 1 ∧ (∀ b ∈ [b0, 5, 0, 1], b.toNat ≤ 5) ∧ 1 ≤ 1 ∧ 1 < 2 ∧
        2 < 3 ∧ 3 < op.toNat * 256 + 255 ∧ op.toNat * 256 + 255 ≤ 1023;
      (∀ po b0 op priorities, busy.addressed (one (payload po b0 op ++ priorities)) ∧
        halted.addressed (one (payload po b0 op ++ priorities))) ∧
      (List.replicate 35 (3 : Byte)).length = 35 ∧ (∀ b ∈ List.replicate 35 (3 : Byte), b.toNat ≤ 3) ∧
      busy.run = .running ∧ halted.run = .stopped ∧ ok 1 5 3 ∧ ¬ok 2 5 3 ∧ ¬ok 1 6 3 ∧ ¬ok 1 5 4) ∧
    (let p : Params := { Params.powerOn with
        pairingWindow := 60, repeatInterval := 10, silenceTimeout := 600, confirmCount := 4
        shortThreshold := 1, normalTop := 2, activeThreshold := 3, openThreshold := 1023 };
      5 ≤ p.pairingWindow ∧ p.pairingWindow ≤ 60 ∧ p.repeatInterval ≤ 10 ∧ 10 ≤ p.silenceTimeout ∧
        p.silenceTimeout ≤ 600 ∧ 1 ≤ p.confirmCount ∧ p.confirmCount ≤ 4 ∧ 1 ≤ p.shortThreshold ∧
        p.shortThreshold < p.normalTop ∧ p.normalTop < p.activeThreshold ∧
        p.activeThreshold < p.openThreshold ∧ p.openThreshold ≤ 1023) :=
  ⟨⟨fun _ _ _ _ => ⟨busy_one _, halted_one _⟩, by decide, by decide, rfl, rfl, by decide, by decide, by decide,
    by decide⟩, by decide +kernel⟩

theorem witness_ReadsChangeNothing :
    (∀ p, busy.addressed (one p)) ∧ (0x07 : Byte).toNat * 256 + (0xFF : Byte).toNat ≤ 2047 ∧
    (63 : Byte).toNat ≤ 63 ∧ credX ≠ 0 ∧ (0 : InputNo) ≤ 31 ∧ (0 : ReaderNo) ≤ 30 ∧
    (2 ≤ (2 : Byte).toNat ∧ 64 ≤ (64 : Byte).toNat ∧ 16 ≤ (16 : Byte).toNat ∧
      2048 ≤ (8 : Byte).toNat * 256 + (0 : Byte).toNat ∧ 256 ≤ (1 : Byte).toNat * 256 + (0 : Byte).toNat ∧
      31 < (32 : Byte).toNat ∧ (30 : Byte).toNat < (31 : Byte).toNat) :=
  ⟨busy_one, by decide, by decide, by decide, by decide, by decide, by decide⟩

theorem witness_LampsAndSoundersShowTheState :
    busy.silence = some 160000 ∧ busy.addressed (one [byteOf 15]) ∧ busy.run = .running := ⟨rfl, busy_one _, rfl⟩

theorem witness_RunningKeepsTheSettings :
    busy.run = .running ∧ (∀ straps closed, Instr.secondTick ≠ .powerOn straps closed) ∧
    ∃ t, exec .secondTick busy = .next t := ⟨rfl, nofun, next_of_gives _ (by decide +kernel)⟩

end Sys2Proof.Tests
end

/-! # Calendar arithmetic (R26, R35 to R38) -/

namespace Sys2Proof.Machine

/-! ## Dates and day numbers (R26, R35, R36) -/

theorem Date.valid_iff (d : Date) :
    d.valid = true ↔ d.year ≤ 99 ∧ 1 ≤ d.month ∧ d.month ≤ 12 ∧ 1 ≤ d.day ∧
      d.day ≤ monthLength d.year d.month := by
  simp [Date.valid, and_assoc]

/-- The days before a month are those before the month that precedes it and its length. -/
theorem daysBefore_succ {y m : Nat} (h1 : 1 ≤ m) (h12 : m < 12) :
    daysBefore y (m + 1) = daysBefore y m + monthLength y m := by
  interval_cases m <;> simp [daysBefore, daysBeforeMonth, monthLength] <;> split <;> rfl

/-- A year starts where the December before it ends. -/
theorem yearStart_succ (y : Nat) : yearStart (y + 1) = yearStart y + (daysBefore y 12 + monthLength y 12) := by
  simp only [yearStart, daysBefore, daysBeforeMonth, monthLength, isLeap, beq_iff_eq, Bool.and_eq_true,
    decide_eq_true_eq]
  split <;> omega

theorem yearStart_mono {y z : Nat} (h : y ≤ z) : yearStart y ≤ yearStart z := by
  unfold yearStart; omega

theorem daysBefore_one (y : Nat) : daysBefore y 1 = 0 := by simp [daysBefore, daysBeforeMonth]

theorem daysBefore_mono {y m n : Nat} (h1 : 1 ≤ m) (h : m ≤ n) (h12 : n ≤ 12) :
    daysBefore y m ≤ daysBefore y n := by
  induction n, h using Nat.le_induction with
  | base => exact le_rfl
  | succ n hmn ih =>
    have := daysBefore_succ (y := y) (h1.trans hmn) h12
    have := ih (by omega)
    omega

/-- The days of a year that have passed at the end of one of its months are no more than those before the next. -/
theorem daysBefore_add_monthLength_le {y m n : Nat} (h1 : 1 ≤ m) (h : m < n) (h12 : n ≤ 12) :
    daysBefore y m + monthLength y m ≤ daysBefore y n := by
  rw [← daysBefore_succ h1 (by omega)]
  exact daysBefore_mono (by omega) h h12

theorem yearStart_add_le {y m : Nat} (h1 : 1 ≤ m) (h12 : m ≤ 12) :
    yearStart y + (daysBefore y m + monthLength y m) ≤ yearStart (y + 1) := by
  rw [yearStart_succ]
  rcases Nat.lt_or_eq_of_le h12 with h | rfl
  · have := daysBefore_add_monthLength_le (y := y) h1 h le_rfl
    omega
  · exact le_rfl

theorem yearOfDay_le (day n : Nat) : yearOfDay day n ≤ n := by
  induction n with
  | zero => exact le_rfl
  | succ n ih => unfold yearOfDay; split <;> omega

/-- The year of a day number is the largest that starts no later (R36 step 1). -/
theorem le_yearOfDay_iff {day n y : Nat} (hy : y ≤ n) : y ≤ yearOfDay day n ↔ yearStart y ≤ day := by
  induction n with
  | zero =>
    obtain rfl : y = 0 := by omega
    simp [yearOfDay, yearStart]
  | succ n ih =>
    have hle := yearOfDay_le day n
    unfold yearOfDay
    split
    next h => exact iff_of_true hy ((yearStart_mono hy).trans h)
    next h =>
      rcases Nat.lt_or_eq_of_le hy with hlt | rfl
      · exact ih (by omega)
      · exact iff_of_false (by omega) h

theorem monthOfRemainder_le {y r n : Nat} (hn : 1 ≤ n) : monthOfRemainder y r n ≤ n := by
  induction n with
  | zero => omega
  | succ n ih =>
    unfold monthOfRemainder
    split
    · exact le_rfl
    · cases n with
      | zero => exact le_rfl
      | succ n => exact (ih (by omega)).trans (by omega)

/-- The month of a remainder is the last whose days before it are no more than the remainder (R36 step 2). -/
theorem le_monthOfRemainder_iff {y r n m : Nat} (h1 : 1 ≤ m) (hm : m ≤ n) (h12 : n ≤ 12) :
    m ≤ monthOfRemainder y r n ↔ daysBefore y m ≤ r := by
  induction n with
  | zero => omega
  | succ n ih =>
    unfold monthOfRemainder
    split
    next h => exact iff_of_true hm ((daysBefore_mono h1 hm h12).trans h)
    next h =>
      rcases Nat.lt_or_eq_of_le hm with hlt | rfl
      · exact ih (by omega) (by omega)
      · have hpos : 1 ≤ n := by
          rcases Nat.eq_zero_or_pos n with rfl | hpos
          · exact absurd (by simp [daysBefore_one]) h
          · exact hpos
        have hle : monthOfRemainder y r n ≤ n := monthOfRemainder_le hpos
        exact iff_of_false (by omega) h

/-- A day number that falls into a month of the century is of a date of that month (R36). -/
theorem dateOfDay_eq {y m r : Nat} (hy : y ≤ 99) (h1 : 1 ≤ m) (h12 : m ≤ 12) (hr : r < monthLength y m) :
    dateOfDay (yearStart y + daysBefore y m + r) = ⟨y, m, r + 1⟩ := by
  have hyear : yearOfDay (yearStart y + daysBefore y m + r) 99 = y := by
    have hle : y ≤ yearOfDay (yearStart y + daysBefore y m + r) 99 := (le_yearOfDay_iff hy).mpr (by omega)
    by_contra hne
    have htop := yearOfDay_le (yearStart y + daysBefore y m + r) 99
    have hnext : yearStart (y + 1) ≤ yearStart y + daysBefore y m + r :=
      (le_yearOfDay_iff (by omega)).mp (show y + 1 ≤ yearOfDay _ 99 by omega)
    have := yearStart_add_le (y := y) h1 h12
    omega
  have hmonth : monthOfRemainder y (daysBefore y m + r) 12 = m := by
    have hle : m ≤ monthOfRemainder y (daysBefore y m + r) 12 :=
      (le_monthOfRemainder_iff h1 h12 le_rfl).mpr (by omega)
    by_contra hne
    have htop : monthOfRemainder y (daysBefore y m + r) 12 ≤ 12 := monthOfRemainder_le (by omega)
    have hnext : daysBefore y (m + 1) ≤ daysBefore y m + r :=
      (le_monthOfRemainder_iff (by omega) (by omega) le_rfl).mp (by omega)
    have := daysBefore_succ (y := y) h1 (by omega)
    omega
  have hrest : yearStart y + daysBefore y m + r - yearStart y = daysBefore y m + r := by omega
  simp [dateOfDay, hyear, hrest, hmonth]

theorem Date.dayNumber_mk (y m r : Nat) :
    Date.dayNumber ⟨y, m, r + 1⟩ = yearStart y + daysBefore y m + r := rfl

/-- The conversion of R36 undoes that of R35 on calendar dates. -/
theorem Date.dateOfDay_dayNumber {d : Date} (h : d.valid = true) : dateOfDay d.dayNumber = d := by
  obtain ⟨hy, hm1, hm12, hd1, hd⟩ := d.valid_iff.mp h
  obtain ⟨y, m, day⟩ := d
  obtain ⟨r, rfl⟩ : ∃ r, day = r + 1 := ⟨day - 1, by dsimp only at hd1; omega⟩
  exact dateOfDay_eq hy hm1 hm12 hd

/-- The day number of a calendar date falls before the end of its year. -/
theorem Date.dayNumber_lt {d : Date} (h : d.valid = true) : d.dayNumber < yearStart (d.year + 1) := by
  obtain ⟨hy, hm1, hm12, hd1, hd⟩ := d.valid_iff.mp h
  have := yearStart_add_le (y := d.year) hm1 hm12
  unfold Date.dayNumber
  omega

theorem Date.dayNumber_le {d : Date} (h : d.valid = true) : d.dayNumber ≤ 36524 := by
  have hlt := d.dayNumber_lt h
  have hmono : yearStart (d.year + 1) ≤ yearStart 100 := yearStart_mono (by have := (d.valid_iff.mp h).1; omega)
  have : yearStart 100 = 36525 := rfl
  omega

/-- Every day number of the century falls into a month. -/
theorem exists_month_of_day {n : Nat} (hn : n ≤ 36524) :
    ∃ y m r, y ≤ 99 ∧ 1 ≤ m ∧ m ≤ 12 ∧ r < monthLength y m ∧ n = yearStart y + daysBefore y m + r := by
  have hy := yearOfDay_le n 99
  have hstart : yearStart (yearOfDay n 99) ≤ n := (le_yearOfDay_iff hy).mp le_rfl
  have hend : n < yearStart (yearOfDay n 99 + 1) := by
    by_contra hle
    rcases Nat.lt_or_eq_of_le hy with hlt | heq
    · have := (le_yearOfDay_iff (n := 99) (by omega)).mpr (not_lt.mp hle)
      omega
    · rw [heq] at hle
      exact hle (lt_of_le_of_lt hn (by decide))
  generalize yearOfDay n 99 = y at hy hstart hend
  have hm12 : monthOfRemainder y (n - yearStart y) 12 ≤ 12 := monthOfRemainder_le (by omega)
  have hm1 : 1 ≤ monthOfRemainder y (n - yearStart y) 12 :=
    (le_monthOfRemainder_iff le_rfl (by omega) le_rfl).mpr (by simp [daysBefore_one])
  have hbefore : daysBefore y (monthOfRemainder y (n - yearStart y) 12) ≤ n - yearStart y :=
    (le_monthOfRemainder_iff hm1 hm12 le_rfl).mp le_rfl
  have hwithin : n - yearStart y < daysBefore y (monthOfRemainder y (n - yearStart y) 12) +
      monthLength y (monthOfRemainder y (n - yearStart y) 12) := by
    rcases Nat.lt_or_eq_of_le hm12 with hlt | heq
    · rw [← daysBefore_succ hm1 hlt]
      by_contra hle
      have := (le_monthOfRemainder_iff (n := 12) (by omega) (by omega) le_rfl).mpr (not_lt.mp hle)
      omega
    · rw [heq]
      rw [yearStart_succ] at hend
      omega
  exact ⟨y, _, n - yearStart y - daysBefore y (monthOfRemainder y (n - yearStart y) 12), hy, hm1, hm12,
    by omega, by omega⟩

/-- Every day number of the century is that of a calendar date, which the conversion of R36 gives. -/
theorem dateOfDay_valid_and_dayNumber {n : Nat} (hn : n ≤ 36524) :
    (dateOfDay n).valid = true ∧ (dateOfDay n).dayNumber = n := by
  obtain ⟨y, m, r, hy, hm1, hm12, hr, rfl⟩ := exists_month_of_day hn
  rw [dateOfDay_eq hy hm1 hm12 hr]
  exact ⟨(Date.valid_iff _).mpr ⟨hy, hm1, hm12, by simp, hr⟩, Date.dayNumber_mk y m r⟩

/-! ## The day after (R26) -/

theorem monthLength_pos {y m : Nat} (h1 : 1 ≤ m) (h12 : m ≤ 12) : 0 < monthLength y m := by
  interval_cases m <;> simp [monthLength]
  split <;> omega

/-- The day after a calendar date, but for the last of the century, is a calendar date one day on. -/
theorem Date.next_valid_and_dayNumber {d : Date} (h : d.valid = true) (hlast : d ≠ lastDate) :
    d.next.valid = true ∧ d.next.dayNumber = d.dayNumber + 1 := by
  obtain ⟨y, m, day⟩ := d
  obtain ⟨hy, hm1, hm12, hd1, hd⟩ := (Date.valid_iff _).mp h
  dsimp only at hy hm1 hm12 hd1 hd
  unfold Date.next
  dsimp only
  split
  next hday =>
    exact ⟨(Date.valid_iff _).mpr ⟨hy, hm1, hm12, by simp, hday⟩, by simp [Date.dayNumber]; omega⟩
  next hday =>
    obtain rfl : day = monthLength y m := by omega
    split
    next hmonth =>
      have hsucc := daysBefore_succ (y := y) hm1 hmonth
      have := monthLength_pos (y := y) (m := m + 1) (by omega) (by omega)
      exact ⟨(Date.valid_iff _).mpr ⟨hy, by simp, hmonth, le_rfl, by dsimp only; omega⟩,
        by simp only [Date.dayNumber]; omega⟩
    next hmonth =>
      obtain rfl : m = 12 := by omega
      have hyear : y < 99 := by
        refine lt_of_le_of_ne hy fun h99 => hlast ?_
        rw [h99]
        rfl
      have hsucc := yearStart_succ y
      have hfirst := daysBefore_one (y + 1)
      exact ⟨(Date.valid_iff _).mpr ⟨hyear, le_rfl, by simp, le_rfl, by simp [monthLength]⟩,
        by simp only [Date.dayNumber]; omega⟩

/-! ## Weekly windows (R38) -/

theorem WeeklyWindow.contains_iff (w : WeeklyWindow) (m : Nat) : w.contains m = true ↔ w.offset m < w.length := by
  simp [WeeklyWindow.contains]

/-- The offset of a minute of the week into a window counts the minutes from the window's start to it. -/
theorem WeeklyWindow.start_add_offset (w : WeeklyWindow) {m : Nat} (hs : w.start ≤ 10079) (hm : m ≤ 10079) :
    (w.start + w.offset m) % 10080 = m := by
  unfold WeeklyWindow.offset weekMinutes
  omega

/-- A minute reached from the start of a window within a week has its distance as its offset. -/
theorem WeeklyWindow.offset_eq (w : WeeklyWindow) {m j : Nat} (hs : w.start ≤ 10079) (hj : j < 10080)
    (h : (w.start + j) % 10080 = m) : w.offset m = j := by
  unfold WeeklyWindow.offset weekMinutes
  omega

/-! ## The statement -/

theorem monthLength_eq_getD {y m : Nat} (h1 : 1 ≤ m) (h12 : m ≤ 12) :
    monthLength y m =
      [31, if y % 4 = 0 then 29 else 28, 31, 30, 31, 30, 31, 31, 30, 31, 30, 31].getD (m - 1) 0 := by
  interval_cases m <;> simp [monthLength, isLeap]

theorem daysBefore_eq_getD {y m : Nat} (h1 : 1 ≤ m) (h12 : m ≤ 12) :
    daysBefore y m = [0, 31, 59, 90, 120, 151, 181, 212, 243, 273, 304, 334].getD (m - 1) 0 +
      (if y % 4 = 0 ∧ 3 ≤ m then 1 else 0) := by
  interval_cases m <;> simp [daysBefore, daysBeforeMonth, isLeap]

/-- Settles O17: the two conversions of dates are each other's inverse because years and months partition the days of
the century, and a window's offset is the distance from its start. -/
theorem calendarArithmeticAgrees : Obligations.CalendarArithmeticAgrees := by
  unfold Obligations.CalendarArithmeticAgrees
  refine ⟨fun d => ⟨?_, fun h => ?_⟩, fun c => ⟨rfl, rfl, rfl, rfl, rfl⟩,
    ⟨fun d h => ⟨d.dayNumber_le h, d.dateOfDay_dayNumber h⟩, fun n hn => dateOfDay_valid_and_dayNumber hn⟩,
    fun w m hs hl hm => ?_⟩
  · rw [Date.valid_iff]
    refine and_congr_right fun _ => and_congr_right fun h1 => and_congr_right fun h12 => ?_
    rw [monthLength_eq_getD h1 h12]
  · obtain ⟨-, h1, h12, -, -⟩ := d.valid_iff.mp h
    rw [Date.dayNumber, daysBefore_eq_getD h1 h12, yearStart]
    omega
  · have hstart := w.start_add_offset hs hm
    refine ⟨w.contains_iff m |>.trans ⟨fun h => ⟨_, h, hstart⟩, ?_⟩, fun h => ?_⟩
    · rintro ⟨j, hj, hjm⟩
      rwa [w.offset_eq hs (hj.trans_le hl) hjm]
    · exact ⟨w.offset m, (w.contains_iff m).mp h, hstart, rfl⟩

end Sys2Proof.Machine

/-! # The clock's signals (R26 to R28, R101, R102) -/

namespace Sys2Proof.Machine

/-! ## Counting (R26, R28, R32) -/

theorem Clock.valid_iff (c : Clock) :
    c.valid = true ↔ c.date.valid = true ∧ c.hour ≤ 23 ∧ c.minute ≤ 59 ∧ c.second ≤ 59 := by
  simp [Clock.valid, and_assoc]

theorem Clock.lastMinute_iff (c : Clock) :
    c.lastMinute = true ↔ c.date = lastDate ∧ c.hour = 23 ∧ c.minute = 59 := by
  simp [Clock.lastMinute, and_assoc]

theorem Clock.nextMinute_state (c : Clock) : c.nextMinute.state = c.state := by
  unfold Clock.nextMinute
  split
  · rfl
  · split <;> rfl

theorem Clock.nextMinute_second (c : Clock) : c.nextMinute.second = 0 := by
  unfold Clock.nextMinute
  split
  · rfl
  · split <;> rfl

/-- Within the hour the next whole minute is one minute on in the same date. -/
theorem Clock.nextMinute_of_minute_lt {c : Clock} (h : c.minute < 59) :
    c.nextMinute.date = c.date ∧ c.nextMinute.absoluteMinute = c.absoluteMinute + 1 := by
  rw [Clock.nextMinute, if_pos h]
  refine ⟨rfl, ?_⟩
  simp only [Clock.absoluteMinute, Clock.dayNumber, Clock.minuteOfDay]
  omega

/-- The whole minute after a valid reading is a valid reading one minute on, but at the end of the century. -/
theorem Clock.nextMinute_valid_and_absoluteMinute {c : Clock} (h : c.valid = true) (hl : c.lastMinute ≠ true) :
    c.nextMinute.valid = true ∧ c.nextMinute.absoluteMinute = c.absoluteMinute + 1 := by
  obtain ⟨hd, hh, hm, hs⟩ := c.valid_iff.mp h
  unfold Clock.nextMinute
  split
  next hmin =>
    refine ⟨(Clock.valid_iff _).mpr ⟨hd, hh, hmin, by simp⟩, ?_⟩
    simp only [Clock.absoluteMinute, Clock.dayNumber, Clock.minuteOfDay]
    omega
  next hmin =>
    split
    next hhour =>
      refine ⟨(Clock.valid_iff _).mpr ⟨hd, hhour, by simp, by simp⟩, ?_⟩
      simp only [Clock.absoluteMinute, Clock.dayNumber, Clock.minuteOfDay]
      omega
    next hhour =>
      have hlast : c.date ≠ lastDate := fun hdate =>
        hl (c.lastMinute_iff.mpr ⟨hdate, by omega, by omega⟩)
      obtain ⟨hvalid, hnext⟩ := Date.next_valid_and_dayNumber hd hlast
      refine ⟨(Clock.valid_iff _).mpr ⟨hvalid, by simp, by simp, by simp⟩, ?_⟩
      simp only [Clock.absoluteMinute, Clock.dayNumber, Clock.minuteOfDay, hnext]
      omega

theorem Clock.tick_of_second_lt {c : Clock} (h : c.second < 59) : c.tick = { c with second := c.second + 1 } :=
  if_pos h

theorem Clock.tick_of_minute_ends {c : Clock} (h : ¬c.second < 59) (hl : c.lastMinute ≠ true) :
    c.tick = c.nextMinute := by
  rw [Clock.tick, if_neg h, if_neg hl]

theorem Clock.tick_of_century_ends {c : Clock} (h : ¬c.second < 59) (hl : c.lastMinute = true) :
    c.tick = .powerOn := by
  rw [Clock.tick, if_neg h, if_pos hl]

/-- One second on from a valid reading is a valid reading (R25). -/
theorem Clock.tick_valid {c : Clock} (h : c.valid = true) : c.tick.valid = true := by
  by_cases hs : c.second < 59
  · rw [Clock.tick_of_second_lt hs, Clock.valid_iff]
    obtain ⟨hd, hh, hm, -⟩ := c.valid_iff.mp h
    exact ⟨hd, hh, hm, hs⟩
  · by_cases hl : c.lastMinute = true
    · rw [Clock.tick_of_century_ends hs hl]
      decide
    · rw [Clock.tick_of_minute_ends hs hl]
      exact (Clock.nextMinute_valid_and_absoluteMinute h hl).1

/-- A valid reading is valid after a mark (R25, R32, R33). -/
theorem Clock.marked_valid {c : Clock} (h : c.valid = true) : c.marked.valid = true := by
  obtain ⟨hd, hh, hm, -⟩ := c.valid_iff.mp h
  unfold Clock.marked
  split
  · exact (Clock.valid_iff _).mpr ⟨hd, hh, hm, by simp⟩
  · split
    · exact (Clock.valid_iff _).mpr ⟨hd, hh, hm, by simp⟩
    next hl => exact (Clock.nextMinute_valid_and_absoluteMinute h hl).1

/-! ## Submitting beside other changes -/

/-- A record of a kind of priority 0 is not queued (R182). -/
theorem State.submit_of_unqueued {s : State} {x : Report} (h : s.params.priority x.kind = 0) : s.submit x = s :=
  if_pos h

/-- A record of any other kind is stamped, numbered and offered to the queue (R181 to R184). -/
theorem State.submit_of_queued {s : State} {x : Report} (h : s.params.priority x.kind ≠ 0) :
    s.submit x =
      { s with
        queue := enqueue ⟨s.nextSequence, s.clock.stamp, s.params.priority x.kind, x⟩ s.queue
        nextSequence := s.nextSequence + 1
        lost := if s.queue.length < Config.queueCapacity then s.lost else min (s.lost + 1) Config.lostMax } :=
  if_neg h

/-- Submitting does not depend on what the rooms hold. -/
theorem State.submit_rooms_commute (s : State) (x : Report) (rooms : Vector Room 16) :
    { s.submit x with rooms := rooms } = State.submit { s with rooms := rooms } x := by
  by_cases h : s.params.priority x.kind = 0
  · rw [State.submit_of_unqueued h, State.submit_of_unqueued (s := { s with rooms := rooms }) h]
  · rw [State.submit_of_queued h, State.submit_of_queued (s := { s with rooms := rooms }) h]

/-- Submitting does not depend on the permit table. -/
theorem State.submit_permits_commute (s : State) (x : Report) (table : List (Nat × PermitSlot)) :
    { s.submit x with permits := table } = State.submit { s with permits := table } x := by
  by_cases h : s.params.priority x.kind = 0
  · rw [State.submit_of_unqueued h, State.submit_of_unqueued (s := { s with permits := table }) h]
  · rw [State.submit_of_queued h, State.submit_of_queued (s := { s with permits := table }) h]

theorem State.submitAll_modifyRoom (rs : List Report) (s : State) (q : RoomNo) (f : Room → Room) :
    (s.submitAll rs).modifyRoom q f = (s.modifyRoom q f).submitAll rs := by
  induction rs generalizing s with
  | nil => rfl
  | cons x rs ih =>
    calc ((s.submit x).submitAll rs).modifyRoom q f
        = ((s.submit x).modifyRoom q f).submitAll rs := ih _
      _ = ((s.modifyRoom q f).submit x).submitAll rs := by
        rw [State.modifyRoom, State.submit_room, State.setRoom, State.submit_rooms, State.submit_rooms_commute]
        rfl

theorem State.submitAll_append (s : State) (l m : List Report) :
    s.submitAll (l ++ m) = (s.submitAll l).submitAll m := List.foldl_append

theorem State.zeroCounts_submit (s : State) (x : Report) : (s.submit x).zeroCounts = s.zeroCounts.submit x := by
  rw [State.zeroCounts, State.submit_permits, State.submit_permits_commute]
  rfl

/-- The queue after some records depends on the queue before, on the stamps and sequences, and on the priorities. -/
theorem State.submitAll_queue_congr (rs : List Report) {s t : State} (hq : s.queue = t.queue)
    (hn : s.nextSequence = t.nextSequence) (hc : s.clock = t.clock) (hp : s.params = t.params) :
    (s.submitAll rs).queue = (t.submitAll rs).queue := by
  induction rs generalizing s t with
  | nil => exact hq
  | cons x rs ih =>
    refine ih ?_ ?_ (by simp [hc]) (by simp [hp])
    · simp only [State.submit, hp, hc, hn]
      split
      · exact hq
      · rw [hq]
    · simp only [State.submit, hp, hn]
      split
      · exact hn
      · rfl

/-! ## The overstay check (R101, R102) -/

theorem Entry.overstays_eq (grace a : Nat) (e : Entry) :
    e.overstays grace a = (e.state == .confirmed && !e.overstay &&
      e.entitled.any fun u => decide (u + grace ≤ a)) := by
  unfold Entry.overstays
  cases e.state with
  | provisional => rfl
  | confirmed =>
    cases e.entitled with
    | none => simp
    | some u => simp

theorem Entry.overstays_iff (grace a : Nat) (e : Entry) :
    e.overstays grace a = true ↔ e.state = .confirmed ∧ e.overstay = false ∧
      ∃ u, e.entitled = some u ∧ u + grace ≤ a := by
  rw [Entry.overstays_eq]
  simp [Option.any_eq_true, and_assoc]

/-- A room after the overstay check of absolute minute `a`. -/
def Room.checked (a : Nat) (x : Room) : Room :=
  { x with entries := x.entries.map (Entry.checked x.settings.grace a) }

/-- The OVERSTAY records of one room at absolute minute `a`. -/
def State.overstayRoomReports (s : State) (a : Nat) (q : RoomNo) : List Report :=
  ((s.room q).entries.filter (Entry.overstays (s.room q).settings.grace a)).map (overstayReport q)

/-- The rooms of a list after the overstay check, without its records. -/
def State.checkRooms (s : State) (a : Nat) (l : List RoomNo) : State :=
  l.foldl (fun s q => s.modifyRoom q (Room.checked a)) s

theorem State.overstayRoom_eq (a : Nat) (s : State) (q : RoomNo) :
    s.overstayRoom a q = (s.modifyRoom q (Room.checked a)).submitAll (s.overstayRoomReports a q) := rfl

theorem State.checkRooms_concat (s : State) (a : Nat) (l : List RoomNo) (r : RoomNo) :
    s.checkRooms a (l ++ [r]) = (s.checkRooms a l).modifyRoom r (Room.checked a) := by
  simp [State.checkRooms]

/-- Each room of the list is checked, and the others stay as they are. -/
theorem State.room_checkRooms (a : Nat) {l : List RoomNo} (hl : l.Nodup) (s : State) (q : RoomNo) :
    (s.checkRooms a l).room q = if q ∈ l then (s.room q).checked a else s.room q := by
  induction l using List.reverseRecOn with
  | nil => rfl
  | append_singleton l r ih =>
    obtain ⟨hr, hl⟩ : r ∉ l ∧ l.Nodup := List.nodup_cons.mp (List.nodup_append_comm.mp hl)
    rw [State.checkRooms_concat, State.room_modifyRoom]
    by_cases hq : r = q
    · subst hq
      simp [ih hl, hr]
    · simp [ih hl, hq, Ne.symm hq]

/-- The checks of several rooms change each of them and queue the records of all, in order. -/
theorem State.foldl_overstayRoom (a : Nat) {l : List RoomNo} (hl : l.Nodup) (s : State) :
    l.foldl (State.overstayRoom a) s =
      (s.checkRooms a l).submitAll (l.flatMap (s.overstayRoomReports a)) := by
  induction l using List.reverseRecOn with
  | nil => rfl
  | append_singleton l r ih =>
    obtain ⟨hr, hl⟩ : r ∉ l ∧ l.Nodup := List.nodup_cons.mp (List.nodup_append_comm.mp hl)
    have hreports : ((s.checkRooms a l).submitAll (l.flatMap (s.overstayRoomReports a))).overstayRoomReports a r =
        s.overstayRoomReports a r := by
      simp [State.overstayRoomReports, State.room_checkRooms a hl, hr]
    rw [List.foldl_append, ih hl, List.foldl_cons, List.foldl_nil, State.overstayRoom_eq, hreports,
      State.submitAll_modifyRoom, ← State.submitAll_append, State.checkRooms_concat, List.flatMap_append,
      List.flatMap_singleton]

theorem nodup_sixteen : sixteen.Nodup := List.nodup_finRange 16

theorem mem_sixteen (k : Fin 16) : k ∈ sixteen := List.mem_finRange k

/-- The statement's records of a minute signal are those of the rooms, in order. -/
theorem State.overstayReports_eq (s : State) (a : Nat) :
    s.overstayReports a = sixteen.flatMap (s.overstayRoomReports a) := by
  unfold State.overstayReports State.overstayRoomReports
  simp only [funext (Entry.overstays_eq _ a)]
  rfl

/-! ## Minute and date-change signals (R27) -/

theorem State.minuteSignal_of_unset {c : Clock} (s : State) (h : c.state = .unset) : s.minuteSignal c = s := by
  simp [State.minuteSignal, h]

/-- A minute signal under a SET reading checks every room and queues the records of all, in order (R101, R102). -/
theorem State.minuteSignal_of_set {c : Clock} (s : State) (h : c.state = .set) :
    s.minuteSignal c =
      (s.checkRooms c.absoluteMinute sixteen).submitAll (s.overstayReports c.absoluteMinute) := by
  rw [State.overstayReports_eq, ← State.foldl_overstayRoom _ nodup_sixteen]
  simp [State.minuteSignal, h]

theorem State.checkRooms_form (s : State) (a : Nat) (l : List RoomNo) :
    ∃ rooms, s.checkRooms a l = { s with rooms := rooms } := by
  induction l using List.reverseRecOn with
  | nil => exact ⟨s.rooms, rfl⟩
  | append_singleton l r ih =>
    obtain ⟨rooms, h⟩ := ih
    rw [State.checkRooms_concat, h]
    exact ⟨_, rfl⟩

/-- Everything that a minute signal can do: rooms and records, and nothing else. -/
theorem State.minuteSignal_form (s : State) (c : Clock) :
    ∃ rooms q n l, s.minuteSignal c = { s with rooms := rooms, queue := q, nextSequence := n, lost := l } := by
  cases h : c.state with
  | unset => exact ⟨s.rooms, s.queue, s.nextSequence, s.lost, s.minuteSignal_of_unset h⟩
  | set =>
    obtain ⟨rooms, hrooms⟩ := s.checkRooms_form c.absoluteMinute sixteen
    obtain ⟨q, n, l, hall⟩ :=
      State.submitAll_form (s.overstayReports c.absoluteMinute) (s.checkRooms c.absoluteMinute sixteen)
    rw [s.minuteSignal_of_set h, hall, hrooms]
    exact ⟨_, _, _, _, rfl⟩

/-- The date-change signal zeroes the counts when the date differs, and does nothing else (R5, R27). -/
theorem State.dateChange_eq (s : State) (old : Date) :
    s.dateChange old =
      { s with permits := if s.clock.date = old then s.permits
          else s.permits.map fun e => (e.1, { e.2 with count := 0 }) } := by
  unfold State.dateChange
  split <;> rfl

theorem State.dateChange_room (s : State) (old : Date) (q : RoomNo) : (s.dateChange old).room q = s.room q := by
  rw [State.dateChange_eq]; rfl

theorem State.dateChange_queue (s : State) (old : Date) : (s.dateChange old).queue = s.queue := by
  rw [State.dateChange_eq]

theorem State.reportUnset_of_same {s : State} {old : ClockState} (h : s.clock.state = old) :
    s.reportUnset old = s := by
  unfold State.reportUnset
  split
  next hnew => exact absurd (h.symm.trans hnew) nofun
  next => rfl

theorem State.reportUnset_of_unset {s : State} (old : ClockState) (h : s.clock.state = .unset) :
    s.reportUnset old = if old = .set then s.submit { kind := .clockUnset } else s := by
  unfold State.reportUnset
  rw [h]
  cases old <;> rfl

/-- The signals of a new minute and of a change of date, under the clock as it stands (R27). -/
def State.signalled (s : State) (old : Date) : State := (s.minuteSignal s.clock).dateChange old

/-- Everything that the signals can do: rooms, records and permit counts, the last on a change of date only. -/
theorem State.signalled_form (s : State) (old : Date) :
    ∃ rooms q n l table, (s.clock.date = old → table = s.permits) ∧
      s.signalled old =
        { s with rooms := rooms, queue := q, nextSequence := n, lost := l, permits := table } := by
  obtain ⟨rooms, q, n, l, h⟩ := s.minuteSignal_form s.clock
  refine ⟨rooms, q, n, l, _, fun hdate => ?_, by rw [State.signalled, State.dateChange_eq, h]⟩
  exact if_pos hdate

theorem State.signalled_clock (s : State) (old : Date) : (s.signalled old).clock = s.clock := by
  obtain ⟨_, _, _, _, _, -, h⟩ := s.signalled_form old; rw [h]

theorem State.signalled_now (s : State) (old : Date) : (s.signalled old).now = s.now := by
  obtain ⟨_, _, _, _, _, -, h⟩ := s.signalled_form old; rw [h]

theorem State.signalled_nextTick (s : State) (old : Date) : (s.signalled old).nextTick = s.nextTick := by
  obtain ⟨_, _, _, _, _, -, h⟩ := s.signalled_form old; rw [h]

theorem State.signalled_doors (s : State) (old : Date) : (s.signalled old).doors = s.doors := by
  obtain ⟨_, _, _, _, _, -, h⟩ := s.signalled_form old; rw [h]

theorem State.signalled_pairings (s : State) (old : Date) : (s.signalled old).pairings = s.pairings := by
  obtain ⟨_, _, _, _, _, -, h⟩ := s.signalled_form old; rw [h]

theorem State.signalled_permits {s : State} {old : Date} (hdate : s.clock.date = old) :
    (s.signalled old).permits = s.permits := by
  obtain ⟨_, _, _, _, table, htable, h⟩ := s.signalled_form old; rw [h]; exact htable hdate

theorem State.signalled_of_unset {s : State} (old : Date) (h : s.clock.state = .unset) :
    (s.signalled old).rooms = s.rooms ∧ (s.signalled old).queue = s.queue := by
  rw [State.signalled, s.minuteSignal_of_unset h, State.dateChange_eq]
  exact ⟨rfl, rfl⟩

theorem State.signalled_room_of_set {s : State} (old : Date) (h : s.clock.state = .set) (q : RoomNo) :
    (s.signalled old).room q = (s.room q).checked s.clock.absoluteMinute := by
  rw [State.signalled, State.dateChange_room, s.minuteSignal_of_set h, State.submitAll_room,
    State.room_checkRooms _ nodup_sixteen, if_pos (mem_sixteen q)]

theorem State.signalled_queue_of_set {s : State} (old : Date) (h : s.clock.state = .set) :
    (s.signalled old).queue = (s.submitAll (s.overstayReports s.clock.absoluteMinute)).queue := by
  obtain ⟨rooms, hform⟩ := s.checkRooms_form s.clock.absoluteMinute sixteen
  rw [State.signalled, State.dateChange_queue, s.minuteSignal_of_set h, hform]
  exact State.submitAll_queue_congr _ rfl rfl rfl rfl

/-- The signals under a SET clock mark the overstays of every room, with their records (R101, R102). -/
theorem State.overstaysMarked_signalled {s u : State} {minute : Nat} (old : Date) (hset : u.clock.state = .set)
    (hminute : u.clock.absoluteMinute = minute) (hrooms : u.rooms = s.rooms) (hqueue : u.queue = s.queue)
    (hnext : u.nextSequence = s.nextSequence) (hparams : u.params = s.params) :
    s.overstaysMarked minute (u.signalled old) := by
  subst hminute
  have hroom : ∀ q, u.room q = s.room q := fun q => by rw [State.room, State.room, hrooms]
  have hreports : u.overstayReports u.clock.absoluteMinute = s.overstayReports u.clock.absoluteMinute := by
    simp [State.overstayReports, hroom]
  have hchecked : ∀ q, (u.signalled old).room q = (s.room q).checked u.clock.absoluteMinute := fun q => by
    rw [State.signalled_room_of_set old hset, hroom]
  refine ⟨fun q => ?_, fun q => by rw [hchecked]; exact ⟨rfl, rfl⟩, ?_⟩
  · rw [hchecked]
    exact List.map_congr_left fun e _ => if_congr (Entry.overstays_iff _ _ _) rfl rfl
  · rw [State.signalled_queue_of_set old hset, State.signalled_clock, hreports]
    exact State.submitAll_queue_congr _ hqueue hnext rfl hparams

end Sys2Proof.Machine

/-! # SECOND_TICK, SET TIME and MINUTE MARK (R26 to R33) -/

namespace Sys2Proof.Machine

/-! ## The three ways of a tick (R26, R28) -/

/-- The tick moves the clock, the timebase and the elapsed time. -/
theorem State.tickClock_eq (s : State) :
    s.tickClock = { s with now := max s.now s.nextTick, nextTick := s.nextTick + 1000, clock := s.clock.tick } := rfl

/-- A tick that ends no minute steps the clock, and gives no signal. -/
theorem exec_secondTick_of_second_lt {s : State} (h : s.clock.second < 59) :
    exec .secondTick s = .next { s with
      now := max s.now s.nextTick
      nextTick := s.nextTick + 1000
      clock := { s.clock with second := s.clock.second + 1 } } := by
  have hsame : s.tickClock.clock.state = s.clock.state := by
    rw [State.tickClock_eq, Clock.tick_of_second_lt h]
  change execSecondTick s = _
  rw [execSecondTick, State.reportUnset_of_same hsame, if_pos h, State.dateChange_eq, State.tickClock_eq,
    Clock.tick_of_second_lt h]
  simp

/-- A tick that ends a minute, but not the century, leaves the clock at the next minute, with its signals. -/
theorem exec_secondTick_of_minute_ends {s : State} (h : s.clock.second = 59) (hl : s.clock.lastMinute ≠ true) :
    exec .secondTick s = .next (State.signalled { s with
      now := max s.now s.nextTick
      nextTick := s.nextTick + 1000
      clock := s.clock.nextMinute } s.clock.date) := by
  have hs : ¬s.clock.second < 59 := by omega
  have hsame : s.tickClock.clock.state = s.clock.state := by
    rw [State.tickClock_eq, Clock.tick_of_minute_ends hs hl]
    exact s.clock.nextMinute_state
  change execSecondTick s = _
  rw [execSecondTick, State.reportUnset_of_same hsame, if_neg hs, State.tickClock_eq,
    Clock.tick_of_minute_ends hs hl]
  rfl

/-- The tick that ends the century leaves the clock UNSET and every count at 0, and records it under a SET clock. -/
theorem exec_secondTick_of_century_ends {s : State} (h : s.clock.second = 59) (hl : s.clock.lastMinute = true) :
    exec .secondTick s = .next
      (let u : State := { s with
        now := max s.now s.nextTick
        nextTick := s.nextTick + 1000
        clock := ⟨.unset, ⟨0, 1, 1⟩, 0, 0, 0⟩
        permits := s.permits.map fun e => (e.1, { e.2 with count := 0 }) }
      if s.clock.state = .set then u.submit { kind := .clockUnset } else u) := by
  have hs : ¬s.clock.second < 59 := by omega
  obtain ⟨hdate, -, -⟩ := s.clock.lastMinute_iff.mp hl
  have htick : s.tickClock.clock = .powerOn := by rw [State.tickClock_eq, Clock.tick_of_century_ends hs hl]
  have hchanged : ∀ u : State, u.clock = .powerOn → u.dateChange s.clock.date = u.zeroCounts := fun u hu => by
    rw [State.dateChange, if_neg (by rw [hu, hdate]; decide)]
  have hzero : s.tickClock.zeroCounts = { s with
      now := max s.now s.nextTick
      nextTick := s.nextTick + 1000
      clock := ⟨.unset, ⟨0, 1, 1⟩, 0, 0, 0⟩
      permits := s.permits.map fun e => (e.1, { e.2 with count := 0 }) } := by
    rw [State.zeroCounts, htick]
    rfl
  change execSecondTick s = _
  rw [execSecondTick, if_neg hs, State.reportUnset_of_unset _ (by rw [htick]; rfl)]
  dsimp only
  split
  · rw [State.submit_clock, htick, State.minuteSignal_of_unset _ rfl, hchanged _ (by rw [State.submit_clock, htick]),
      State.zeroCounts_submit, hzero]
  · rw [htick, State.minuteSignal_of_unset _ rfl, hchanged _ htick, hzero]

/-- Settles O14: a tick ends no minute, a minute or the century, and each of the three has its equation. -/
theorem secondTicksCount : Obligations.SecondTicksCount := by
  unfold Obligations.SecondTicksCount
  refine ⟨fun s hvalid hend => ?_, fun s => ⟨exec_secondTick_of_second_lt, fun hs hset hm => ?_⟩,
    fun s hdate hh hm hs => exec_secondTick_of_century_ends hs (s.clock.lastMinute_iff.mpr ⟨hdate, hh, hm⟩)⟩
  · obtain ⟨hd, hh, hm, hsec⟩ := s.clock.valid_iff.mp hvalid
    rcases Nat.lt_or_eq_of_le hsec with hs | hs
    · refine ⟨_, exec_secondTick_of_second_lt hs, rfl, rfl, (Clock.valid_iff _).mpr ⟨hd, hh, hm, hs⟩, rfl, rfl,
        fun _ => rfl, fun h => absurd h (by omega), fun h => absurd h (by omega), rfl, rfl⟩
    · have hl : s.clock.lastMinute ≠ true := fun hl => by
        obtain ⟨hdate, hhour, hmin⟩ := s.clock.lastMinute_iff.mp hl
        exact hend ⟨hdate, hhour, hmin, hs⟩
      obtain ⟨hnext, hminute⟩ := Clock.nextMinute_valid_and_absoluteMinute hvalid hl
      refine ⟨_, exec_secondTick_of_minute_ends hs hl, ?_, ?_, ?_, State.signalled_now _ _,
        State.signalled_nextTick _ _, fun hdate => State.signalled_permits ?_, fun _ hset => ?_, fun _ hunset => ?_,
        State.signalled_doors _ _, State.signalled_pairings _ _⟩
      · rw [State.signalled_clock, Clock.absoluteSecond, Clock.absoluteSecond, hminute, s.clock.nextMinute_second, hs]
        omega
      · rw [State.signalled_clock, s.clock.nextMinute_state]
      · rw [State.signalled_clock, hnext]
      · rwa [State.signalled_clock] at hdate
      · exact State.overstaysMarked_signalled _ (s.clock.nextMinute_state.trans hset) hminute rfl rfl rfl rfl
      · exact State.signalled_of_unset _ (s.clock.nextMinute_state.trans hunset)
  · obtain ⟨hdate, hminute⟩ := Clock.nextMinute_of_minute_lt hm
    refine ⟨_, exec_secondTick_of_minute_ends hs fun hl => ?_, State.signalled_permits hdate, ?_⟩
    · have := (s.clock.lastMinute_iff.mp hl).2.2
      omega
    · exact State.overstaysMarked_signalled _ (s.clock.nextMinute_state.trans hset) hminute rfl rfl rfl rfl

/-! ## SET TIME (R30, R31) -/

/-- The effect of SET TIME on the state that heard it, as the statement writes it. -/
theorem State.stepTime_eq (s : State) (new : Clock) :
    s.stepTime new = State.submit { s with
        clock := new
        nextTick := s.now + 1000
        permits := if new.date = s.clock.date then s.permits
          else s.permits.map fun e => (e.1, { e.2 with count := 0 }) }
      { kind := .clockSet
        detail := if s.clock.state = .set then some s.clock.absoluteSecond else none } := by
  have hdetail : s.clock.setDetail = if s.clock.state = .set then some s.clock.absoluteSecond else none := by
    unfold Clock.setDetail
    cases s.clock.state <;> rfl
  rw [State.stepTime, State.dateChange_eq, hdetail]
  rfl

theorem ownSetTime_of_valid {y mo d h mi se : Byte} {s : State}
    (hv : (Clock.mk .set ⟨y.toNat, mo.toNat, d.toNat⟩ h.toNat mi.toNat se.toNat).valid = true) :
    ownSetTime [y, mo, d, h, mi, se] s =
      (accept (.time ⟨.set, ⟨y.toNat, mo.toNat, d.toNat⟩, h.toNat, mi.toNat, se.toNat⟩),
        s.stepTime ⟨.set, ⟨y.toNat, mo.toNat, d.toNat⟩, h.toNat, mi.toNat, se.toNat⟩) :=
  if_pos hv

theorem ownSetTime_of_invalid {y mo d h mi se : Byte} {s : State}
    (hv : ¬(Clock.mk .set ⟨y.toNat, mo.toNat, d.toNat⟩ h.toNat mi.toNat se.toNat).valid = true) :
    ownSetTime [y, mo, d, h, mi, se] s = (refuse .badValue, s) :=
  if_neg hv

/-! ## MINUTE MARK (R32, R33) -/

theorem ownMinuteMark_of_unset {s : State} (h : s.clock.state = .unset) :
    ownMinuteMark [] s = (refuse .clockUnset, s) := by
  simp [ownMinuteMark, h]

theorem ownMinuteMark_of_set {s : State} (h : s.clock.state = .set) :
    ownMinuteMark [] s = (accept (.time s.clock.marked), s.markMinute) := by
  simp [ownMinuteMark, h]

/-- A mark that moves the clock back, or to the last second of the century, restarts the timebase and no more. -/
theorem State.markMinute_of_not_forward {s : State} {sec : Nat} (h : s.clock.marksForward ≠ true)
    (hmarked : s.clock.marked = { s.clock with second := sec }) :
    s.markMinute = { s with clock := { s.clock with second := sec }, nextTick := s.now + 1000 } := by
  rw [State.markMinute, if_neg h, hmarked, State.dateChange_eq]
  simp [State.restartTimebase, Config.second]

/-- A mark that moves the clock on gives the signals of the next whole minute. -/
theorem State.markMinute_of_forward {s : State} (h : s.clock.marksForward = true) :
    s.markMinute =
      State.signalled { s with clock := s.clock.marked, nextTick := s.now + 1000 } s.clock.date := by
  rw [State.markMinute, if_pos h]
  rfl

/-- A carried out mark, addressed and broadcast, once the marked state is known. -/
theorem exec_minuteMark_of_set {r : Req} {s t : State} (hr : r.payload = []) (hset : s.clock.state = .set)
    (ht : s.heard.markMinute = t) (hclock : s.clock.marked = t.clock) :
    (s.addressed r → exec (.minuteMark r) s = .next (t.owing 0x11 .accepted (.time t.clock))) ∧
      (s.broadcasted r → exec (.minuteMark r) s = .next t) := by
  have howner : ownerOf .minuteMark r.payload s.heard = (accept (.time t.clock), t) := by
    subst ht
    rw [hr, ← hclock, ← s.heard_clock]
    exact ownMinuteMark_of_set (by rwa [s.heard_clock])
  exact ⟨fun h => exec_addressed (k := .minuteMark) h nofun (by rw [hr]; rfl) howner,
    fun h => exec_broadcast (k := .minuteMark) h rfl (by rw [hr]; rfl) howner⟩

/-- A mark below second 30, or in the last minute of the century, leaves the rest of the part as it is. -/
theorem heard_markMinute_of_not_forward {s : State} {sec : Nat} (h : s.clock.marksForward ≠ true)
    (hmarked : s.clock.marked = { s.clock with second := sec }) :
    s.heard.markMinute = { s.heard with clock := { s.clock with second := sec }, nextTick := s.now + 1000 } := by
  rw [State.markMinute_of_not_forward (s := s.heard) (sec := sec) (by rwa [s.heard_clock])
    (by rwa [s.heard_clock])]
  simp only [State.heard_clock, State.heard_now]

/-- SET TIME, accepted and refused, addressed and broadcast (R30, R31). -/
theorem exec_setTime {r : Req} {s : State} {y mo d h mi se : Byte} {reply : Reply} {t : State}
    (hr : r.payload = [y, mo, d, h, mi, se])
    (howner : ownSetTime [y, mo, d, h, mi, se] s.heard = (reply, t)) :
    (s.addressed r → exec (.setTime r) s = .next (t.owing 0x10 reply.result reply.data)) ∧
      (s.broadcasted r → exec (.setTime r) s = .next t) := by
  rw [← hr] at howner
  exact ⟨fun h => exec_addressed (k := .setTime) h nofun (by rw [hr]; rfl) howner,
    fun h => exec_broadcast (k := .setTime) h rfl (by rw [hr]; rfl) howner⟩

/-- Settles O16: the requests are taken by their owners, whose answers have their equations. -/
theorem timeRequestsSetTheClock : Obligations.TimeRequestsSetTheClock := by
  unfold Obligations.TimeRequestsSetTheClock
  refine ⟨fun r s y mo d h mi se hr => ?_, fun r s hr => ⟨fun hunset => ?_, fun hset hsec => ?_,
    fun hset hsec hdate hhour hmin => ?_, fun hset hsec hvalid hend => ?_⟩⟩
  · intro new u t ok
    have hok : new.valid = true ↔ ok := new.valid_iff
    have hstep : s.heard.stepTime new = t := by
      simp only [t, u, State.stepTime_eq, State.heard_clock, State.heard_now, State.heard_permits]
    have accepted (hv : ok) := exec_setTime (s := s) hr (ownSetTime_of_valid (hok.mpr hv))
    have refused (hv : ¬ok) := exec_setTime (s := s) hr (ownSetTime_of_invalid (mt hok.mp hv))
    rw [hstep] at accepted
    exact ⟨fun ha hv => (accepted hv).1 ha, fun hb hv => (accepted hv).2 hb, fun ha hv => (refused hv).1 ha,
      fun hb hv => (refused hv).2 hb⟩
  · have howner : ownerOf .minuteMark r.payload s.heard = (refuse .clockUnset, s.heard) := by
      rw [hr]
      exact ownMinuteMark_of_unset (by rwa [s.heard_clock])
    exact ⟨fun h => exec_addressed (k := .minuteMark) h nofun (by rw [hr]; rfl) howner,
      fun h => exec_broadcast (k := .minuteMark) h rfl (by rw [hr]; rfl) howner⟩
  · have hmarked : s.clock.marked = { s.clock with second := 0 } := if_pos hsec
    refine exec_minuteMark_of_set hr hset (heard_markMinute_of_not_forward ?_ hmarked) hmarked
    simp [Clock.marksForward, hsec]
  · have hl : s.clock.lastMinute = true := s.clock.lastMinute_iff.mpr ⟨hdate, hhour, hmin⟩
    have hmarked : s.clock.marked = { s.clock with second := 59 } := by
      rw [Clock.marked, if_neg (by omega), if_pos hl]
    refine exec_minuteMark_of_set hr hset (heard_markMinute_of_not_forward ?_ hmarked) hmarked
    simp [Clock.marksForward, hl]
  · have hl : s.clock.lastMinute ≠ true := fun hl => hend (s.clock.lastMinute_iff.mp hl)
    have hmarked : s.clock.marked = s.clock.nextMinute := by
      rw [Clock.marked, if_neg (by omega), if_neg hl]
    have hforward : s.heard.clock.marksForward = true := by
      simp [Clock.marksForward, hsec, hl]
    obtain ⟨hnext, hminute⟩ := Clock.nextMinute_valid_and_absoluteMinute hvalid hl
    have hmark := State.markMinute_of_forward hforward
    rw [s.heard_clock, s.heard_now, hmarked] at hmark
    refine ⟨_, exec_minuteMark_of_set hr hset hmark ?_, ?_, ?_, ?_, ?_, State.signalled_nextTick _ _,
      fun h => ?_, ?_⟩
    · rw [State.signalled_clock, hmarked]
    · rw [State.signalled_clock, hminute]
    · rw [State.signalled_clock, s.clock.nextMinute_second]
    · rw [State.signalled_clock, s.clock.nextMinute_state, hset]
    · rw [State.signalled_clock, hnext]
    · rw [State.signalled_clock] at h
      exact (State.signalled_permits h).trans s.heard_permits
    · exact State.overstaysMarked_signalled _ (s.clock.nextMinute_state.trans hset) hminute rfl rfl rfl rfl

end Sys2Proof.Machine

/-! # What every step keeps of the clock, the queue, the link and the pin (O19)

Most of what the part does changes none of the calendar clock, the record queue, the link and the pin, but for the
records that it submits. `Outward` is a property of those four that every single change of them keeps. It is kept by
every command but RESET_PIN, which alone holds the pin. -/

namespace Sys2Proof.Machine

/-- The calendar clock, the record queue, the link and the pin. -/
def State.outward (s : State) : Clock × List Record × Nat × LinkState × Option Nat × Bool :=
  (s.clock, s.queue, s.lost, s.link, s.silence, s.pinHeld)

theorem State.outward_restartTimebase (s : State) : s.restartTimebase.outward = s.outward := by
  simp only [State.outward, State.restartTimebase]

theorem State.outward_resetReaders (s : State) :
    s.resetReaders.outward = (s.submitAll (allReaders.flatMap s.tamperEnd)).outward := by
  simp only [State.outward, State.resetReaders]

theorem State.outward_takeReset (s : State) (cause : ResetCause) (straps : Byte) :
    (s.takeReset cause straps).outward =
      State.outward { s.denyAllPairings.dropAllReferences.stopDoors.resetInputs.resetReaders.submit
        { kind := .controllerReset, detail := some cause.code } with link := .offline, silence := none } := by
  simp only [State.outward, State.takeReset]

theorem State.outward_tickClock (s : State) : s.tickClock.outward = State.outward { s with clock := s.clock.tick } := by
  simp only [State.outward, State.tickClock_eq]

/-- A property of the calendar clock, the record queue, the link and the pin alone, which holds at reset and is kept by
each single change of them but that of holding the pin. -/
structure Outward (P : State → Prop) : Prop where
  /-- The rest of the state does not matter. -/
  frame : ∀ s t : State, t.outward = s.outward → P s → P t
  submit : ∀ s r, P s → P (s.submit r)
  /-- The clock is only ever set to a valid time, or stepped from the one it has (R26, R30, R32). -/
  clock : ∀ s c, (s.clock.valid = true → c.valid = true) → P s → P { s with clock := c }
  collected : ∀ s n, P s → P { s with queue := s.queue.drop n }
  online : ∀ s moment, P s → P { s with link := .online, silence := some moment }
  offline : ∀ s, P s → P { s with link := .offline, silence := none }
  released : ∀ s, P s → P { s with pinHeld := false }
  reset : P State.reset

/-- What is said of the state that a command leaves, if it leaves one. -/
def Leads (P : State → Prop) (o : Host.Outcome State Fault Refusal) : Prop := ∀ t, o = .next t → P t

theorem leads_next {P : State → Prop} {t : State} : Leads P (.next t) ↔ P t :=
  ⟨fun h => h t rfl, fun h _ ht => Host.Outcome.next.inj ht ▸ h⟩

/-- A property is kept by every step when idling, taking a command out of the queue, and every command keep it. -/
theorem kept_of_exec {P : State → Prop} (hidle : ∀ s : State, P s → P s.idle)
    (hpending : ∀ (s : State) rest, P s → P { s with pending := rest })
    (hexec : ∀ c s, P s → Leads P (exec c s)) : Kept P := by
  intro s t h hst
  unfold step at hst
  split at hst
  · exact leads_next.mpr (hidle s h) t hst
  · exact hexec _ _ (hpending s _ h) t hst

/-- A command is a request of the kind-code table, or it is none. -/
theorem eq_command_or_request_eq_none (c : Instr) :
    (∃ k r, c = RequestKind.command k r) ∨ c.request = none := by
  cases h : c.request with
  | none => exact Or.inr rfl
  | some x =>
    obtain ⟨k, r⟩ := x
    refine Or.inl ⟨k, r, ?_⟩
    cases c <;> cases h <;> rfl

/-! ## More of what the deciding blocks touch

The signals of the clock touch rooms, permit counts and records; the expiries of a door touch the elapsed time as
well. -/

namespace Engine

variable {P : State → Prop} {s : State} (e : Engine P)

include e

theorem dateChange (old : Date) (h : P s) : P (s.dateChange old) := by
  unfold State.dateChange
  split
  · exact h
  · exact e.zeroCounts h

theorem reportUnset (old : ClockState) (h : P s) : P (s.reportUnset old) := by
  unfold State.reportUnset
  split
  · exact e.submit _ _ h
  · exact h

/-- The tick's signals and its record, after the clock has moved. -/
theorem secondTick (h : P s.tickClock) : Leads P (execSecondTick s) := by
  have reported := e.reportUnset s.clock.state h
  refine leads_next.mpr (e.dateChange _ ?_)
  split
  · exact reported
  · exact e.minuteSignal _ reported

variable (hreach : ∀ s moment, P s → P (State.reach s moment))

include hreach

theorem pairingDeadlineExpiry (k : DoorNo) (h : P s) : Leads P (execPairingDeadlineExpiry k s) := by
  unfold execPairingDeadlineExpiry
  split
  · exact leads_next.mpr h
  · exact leads_next.mpr (e.postAtDoor _ _ (e.denyMembers _ _ (hreach _ _ h)))

theorem releaseTimerExpiry (k : DoorNo) (h : P s) : Leads P (execReleaseTimerExpiry k s) := by
  unfold execReleaseTimerExpiry
  split
  · exact leads_next.mpr h
  · exact leads_next.mpr (e.modifyDoor _ _ (e.dropReferences _ (hreach _ _ h)))

theorem egressTimerExpiry (k : DoorNo) (h : P s) : Leads P (execEgressTimerExpiry k s) := by
  unfold execEgressTimerExpiry
  split
  · exact leads_next.mpr h
  · exact leads_next.mpr (e.modifyDoor _ _ (hreach _ _ h))

theorem openAllowanceExpiry (k : DoorNo) (h : P s) : Leads P (execOpenAllowanceExpiry k s) := by
  unfold execOpenAllowanceExpiry
  split
  · exact leads_next.mpr h
  · dsimp only
    split
    · exact leads_next.mpr (e.submit _ _ (e.modifyDoor _ _ (hreach _ _ h)))
    · exact leads_next.mpr (e.modifyDoor _ _ (hreach _ _ h))

end Engine

/-! ## Requests that only read

They leave the part as it is, whatever they answer. -/

theorem ownReadSettings_snd (payload : List Byte) (s : State) : (ownReadSettings payload s).2 = s := by
  unfold ownReadSettings
  split
  · split
    · rfl
    · split <;> rfl
  · rfl

theorem ownReadPermit_snd (payload : List Byte) (s : State) : (ownReadPermit payload s).2 = s := by
  unfold ownReadPermit
  dsimp only
  split <;> rfl

theorem ownReadSchedule_snd (payload : List Byte) (s : State) : (ownReadSchedule payload s).2 = s := by
  unfold ownReadSchedule
  dsimp only
  split <;> rfl

theorem ownCheckCredential_snd (payload : List Byte) (s : State) : (ownCheckCredential payload s).2 = s := by
  unfold ownCheckCredential
  split
  · rfl
  · split <;> rfl

theorem ownReadRevocations_snd (payload : List Byte) (s : State) : (ownReadRevocations payload s).2 = s := by
  unfold ownReadRevocations
  dsimp only
  split <;> rfl

theorem ownReadRoom_snd (payload : List Byte) (s : State) : (ownReadRoom payload s).2 = s := by
  unfold ownReadRoom
  split
  · split <;> rfl
  · rfl

theorem ownReadDoor_snd (payload : List Byte) (s : State) : (ownReadDoor payload s).2 = s := by
  unfold ownReadDoor
  split
  · split <;> rfl
  · rfl

theorem ownReadInputs_snd (payload : List Byte) (s : State) : (ownReadInputs payload s).2 = s := by
  unfold ownReadInputs
  split
  · split
    · split <;> rfl
    · rfl
  · rfl

theorem ownReadReaders_snd (payload : List Byte) (s : State) : (ownReadReaders payload s).2 = s := by
  unfold ownReadReaders
  split
  · split
    · split <;> rfl
    · rfl
  · rfl

namespace Outward

variable {P : State → Prop} {s : State} (o : Outward P)

include o

theorem engine : Engine P where
  submit := o.submit
  door s _ _ := o.frame s _ rfl
  room s _ _ := o.frame s _ rfl
  reader s _ _ := o.frame s _ rfl
  pairing s _ _ := o.frame s _ rfl
  permits s _ := o.frame s _ rfl

theorem setInput (s : State) (i : InputNo) (x : InputLine) (h : P s) : P (s.setInput i x) := o.frame s _ rfl h

theorem reach (moment : Nat) (h : P s) : P (s.reach moment) := o.frame s _ rfl h

/-! ## The reader loop -/

theorem sendPoll (a : ReaderNo) (h : P s) : P (s.sendPoll a) := o.frame s _ rfl h

theorem beQuiet (h : P s) : P s.beQuiet := o.frame s _ rfl h

theorem endRound (h : P s) : P s.endRound := o.frame s _ rfl h

theorem beginRound (h : P s) : P s.beginRound := by
  unfold State.beginRound
  split
  · exact o.sendPoll _ h
  · exact o.beQuiet h

theorem advanceLoop (h : P s) : P s.advanceLoop := by
  unfold State.advanceLoop
  split
  · split
    · exact o.sendPoll _ h
    · exact o.beQuiet h
    · exact o.beginRound (o.endRound h)
  · exact o.frame s _ rfl h

theorem restartLoop (h : P s) : P s.restartLoop := o.advanceLoop (o.frame s _ rfl h)

theorem wakeLoop (h : P s) : P s.wakeLoop := by
  unfold State.wakeLoop
  split
  · exact o.advanceLoop (o.frame s _ rfl h)
  · exact h

/-! ## The clock -/

theorem restartTimebase (h : P s) : P s.restartTimebase := o.frame s _ s.outward_restartTimebase h

theorem tickClock (h : P s) : P s.tickClock :=
  o.frame { s with clock := s.clock.tick } _ s.outward_tickClock (o.clock s _ Clock.tick_valid h)

/-! ## Requests -/

theorem linkHeard (h : P s) : P s.linkHeard := by
  cases hl : s.link with
  | online =>
    have heard : s.linkHeard = { s with link := .online, silence := some (s.after s.params.silenceTimeout) } := by
      simp [State.linkHeard, hl]
    exact heard ▸ o.online s _ h
  | offline =>
    have heard : s.linkHeard = { s.submit { kind := .linkUp } with
        link := .online
        silence := some (s.after s.params.silenceTimeout) } := by
      simp [State.linkHeard, hl]
    exact heard ▸ o.online _ _ (o.submit _ _ h)

theorem takeFrame (keepWindow : Bool) (h : P s) : P (s.takeFrame keepWindow) := by
  unfold State.takeFrame
  split
  · exact o.linkHeard h
  · exact o.frame s.linkHeard _ rfl (o.linkHeard h)

theorem respond (r : Req) (code : Byte) (reply : Reply) (h : P s) : P (s.respond r code reply) := by
  unfold State.respond
  split
  · exact h
  · exact o.frame s _ rfl h

theorem startRunning (h : P s) : P s.startRunning := by
  refine foldl_keeps (fun s k h => ?_) _ _ (o.submit _ _ (o.frame s _ rfl h))
  unfold State.settleServing
  split
  · exact o.engine.settleDoor _ h
  · exact h

theorem stopRunning (h : P s) : P s.stopRunning :=
  o.engine.stopDoors (o.engine.dropAllReferences (o.engine.cancelAllPairings (o.submit _ _ (o.frame s _ rfl h))))

theorem stepTime {new : Clock} (hnew : new.valid = true) (h : P s) : P (s.stepTime new) := by
  unfold State.stepTime
  exact o.submit _ _ (o.engine.dateChange _ (o.restartTimebase (o.clock s new (fun _ => hnew) h)))

theorem markMinute (h : P s) : P s.markMinute := by
  have marked := o.restartTimebase (o.clock s _ Clock.marked_valid h)
  unfold State.markMinute
  refine o.engine.dateChange _ ?_
  split
  · exact o.engine.minuteSignal _ marked
  · exact marked

theorem ownSetController (payload : List Byte) (h : P s) : P (ownSetController payload s).2 := by
  unfold Machine.ownSetController
  split
  · exact h
  · split
    · exact h
    · exact o.frame s _ rfl h

theorem ownStart (payload : List Byte) (h : P s) : P (ownStart payload s).2 := by
  unfold Machine.ownStart
  split
  · exact h
  · split
    · exact h
    · dsimp only
      exact o.startRunning h

theorem ownStop (payload : List Byte) (h : P s) : P (ownStop payload s).2 := by
  unfold Machine.ownStop
  split
  · exact h
  · dsimp only
    exact o.stopRunning h

theorem ownSetTime (payload : List Byte) (h : P s) : P (ownSetTime payload s).2 := by
  unfold Machine.ownSetTime
  split
  · exact h
  · split
    next hnew => exact o.stepTime hnew h
    · exact h

theorem ownMinuteMark (payload : List Byte) (h : P s) : P (ownMinuteMark payload s).2 := by
  unfold Machine.ownMinuteMark
  split
  · exact h
  · exact o.markMinute h

theorem ownOpenPermitWindow (payload : List Byte) (h : P s) : P (ownOpenPermitWindow payload s).2 := by
  unfold Machine.ownOpenPermitWindow
  split
  · dsimp only
    split
    · exact o.frame s _ rfl h
    · exact h
  · exact h

theorem offerPermit (w : PermitWindow) (p : PermitRecord) (h : P s) : P (s.offerPermit w p).2 := by
  unfold State.offerPermit
  split
  · exact h
  · exact h
  · exact o.frame s _ rfl h

theorem ownPermitRecord (payload : List Byte) (h : P s) : P (ownPermitRecord payload s).2 := by
  unfold Machine.ownPermitRecord
  split
  · exact h
  · split
    · exact h
    · split
      · exact h
      · split
        · exact o.frame s _ rfl h
        · split
          · split
            · exact o.offerPermit _ _ h
            · exact h
          · exact h

theorem ownSlotState (target : SlotState) (payload : List Byte) (h : P s) :
    P (ownSlotState target payload s).2 := by
  unfold Machine.ownSlotState
  dsimp only
  split
  · split
    · exact h
    · exact o.frame s _ rfl h
  · exact h

theorem ownWriteSchedule (payload : List Byte) (h : P s) : P (ownWriteSchedule payload s).2 := by
  unfold Machine.ownWriteSchedule
  split
  · dsimp only
    split
    · split
      · exact o.frame s _ rfl h
      · exact h
    · exact h
  · exact h

theorem ownAddHoliday (payload : List Byte) (h : P s) : P (ownAddHoliday payload s).2 := by
  unfold Machine.ownAddHoliday
  split
  · exact h
  · split
    · exact h
    · split
      · exact h
      · exact o.frame s _ rfl h

theorem ownRemoveHoliday (payload : List Byte) (h : P s) : P (ownRemoveHoliday payload s).2 := by
  unfold Machine.ownRemoveHoliday
  split
  · exact h
  · split
    · exact o.frame s _ rfl h
    · exact h

theorem placeRevocation (c : Credential) (h : P s) : P (s.placeRevocation c) := by
  unfold State.placeRevocation
  split
  · exact h
  · split
    · exact o.frame s _ rfl h
    · unfold State.overflow
      dsimp only
      split
      · exact o.submit _ _ (o.frame s _ rfl h)
      · exact o.frame s _ rfl h

theorem ownRevoke (payload : List Byte) (h : P s) : P (ownRevoke payload s).2 := by
  unfold Machine.ownRevoke
  split
  · exact h
  · split
    · exact h
    · exact o.engine.revokeEntry _ (o.engine.revokeMember _ (o.placeRevocation _ h))

theorem ownReinstate (payload : List Byte) (h : P s) : P (ownReinstate payload s).2 := by
  unfold Machine.ownReinstate
  split
  · exact h
  · split
    · exact h
    · split
      · exact o.frame s _ rfl h
      · split
        · exact h
        · exact h

theorem ownSetRoom (payload : List Byte) (h : P s) : P (ownSetRoom payload s).2 := by
  unfold Machine.ownSetRoom
  split
  · exact h
  · split
    · exact h
    · split
      · split
        · exact h
        · exact o.engine.supervise _ (o.engine.modifyRoom _ _ h)
      · exact h

theorem ownClearOccupant (payload : List Byte) (h : P s) : P (ownClearOccupant payload s).2 := by
  unfold Machine.ownClearOccupant
  split
  · exact h
  · split
    · exact h
    · split
      · exact h
      · exact o.engine.supervise _ (o.engine.clearEntry _ _ h)

theorem ownClearRoom (payload : List Byte) (h : P s) : P (ownClearRoom payload s).2 := by
  unfold Machine.ownClearRoom
  split
  · split
    · exact o.engine.supervise _ (foldl_keeps (fun _ e h => o.engine.clearEntry _ e h) _ s h)
    · exact h
  · exact h

theorem ownSetDoor (payload : List Byte) (h : P s) : P (ownSetDoor payload s).2 := by
  unfold Machine.ownSetDoor
  split
  · exact h
  · split
    · exact h
    · split
      · exact o.wakeLoop
          (foldl_keeps (fun _ a h => o.engine.forgetReassigned s a h) _ _ (o.engine.modifyDoor _ _ h))
      · exact h

theorem ownSetDoorMode (payload : List Byte) (h : P s) : P (ownSetDoorMode payload s).2 := by
  unfold Machine.ownSetDoorMode
  split
  · split
    · exact foldl_keeps (fun _ k h => o.engine.setMode _ k h) _ s h
    · exact h
  · exact h

theorem ownReleaseDoor (payload : List Byte) (h : P s) : P (ownReleaseDoor payload s).2 := by
  unfold Machine.ownReleaseDoor
  split
  · split
    · exact h
    · split
      · exact h
      · split
        · exact h
        · exact o.submit _ _ (o.engine.requestRelease _ _ h)
  · exact h

theorem ownSilence (payload : List Byte) (h : P s) : P (ownSilence payload s).2 := by
  unfold Machine.ownSilence
  split
  · split
    · exact h
    · split
      · exact h
      · exact o.engine.modifyDoor _ (fun d => { d with sounder := d.sounder.silence }) h
  · exact h

theorem ownSetInput (payload : List Byte) (h : P s) : P (ownSetInput payload s).2 := by
  unfold Machine.ownSetInput
  split
  · split
    · exact h
    · split
      · exact o.engine.configureInput o.setInput _ _ _ h
      · exact h
  · exact h

theorem ownCollect (payload : List Byte) (h : P s) : P (ownCollect payload s).2 := by
  unfold Machine.ownCollect
  split
  · exact o.collected s _ h
  · exact h

/-- The owner of every kind of request keeps the property. -/
theorem owner (k : RequestKind) (payload : List Byte) (h : P s) : P (ownerOf k payload s).2 := by
  cases k with
  | readStatus | readTime | readHolidays | reset => exact h
  | readSettings => exact (ownReadSettings_snd payload s).symm ▸ h
  | readPermit => exact (ownReadPermit_snd payload s).symm ▸ h
  | readSchedule => exact (ownReadSchedule_snd payload s).symm ▸ h
  | checkCredential => exact (ownCheckCredential_snd payload s).symm ▸ h
  | readRevocations => exact (ownReadRevocations_snd payload s).symm ▸ h
  | readRoom => exact (ownReadRoom_snd payload s).symm ▸ h
  | readDoor => exact (ownReadDoor_snd payload s).symm ▸ h
  | readInputs => exact (ownReadInputs_snd payload s).symm ▸ h
  | readReaders => exact (ownReadReaders_snd payload s).symm ▸ h
  | setController => exact o.ownSetController payload h
  | start => exact o.ownStart payload h
  | stop => exact o.ownStop payload h
  | setTime => exact o.ownSetTime payload h
  | minuteMark => exact o.ownMinuteMark payload h
  | openPermitWindow => exact o.ownOpenPermitWindow payload h
  | permitRecord => exact o.ownPermitRecord payload h
  | suspendPermit => exact o.ownSlotState .suspended payload h
  | resumePermit => exact o.ownSlotState .active payload h
  | writeSchedule => exact o.ownWriteSchedule payload h
  | addHoliday => exact o.ownAddHoliday payload h
  | removeHoliday => exact o.ownRemoveHoliday payload h
  | clearHolidays => exact o.frame s _ rfl h
  | revoke => exact o.ownRevoke payload h
  | reinstate => exact o.ownReinstate payload h
  | clearFilter => exact o.frame s _ rfl h
  | setRoom => exact o.ownSetRoom payload h
  | clearOccupant => exact o.ownClearOccupant payload h
  | clearRoom => exact o.ownClearRoom payload h
  | setDoor => exact o.ownSetDoor payload h
  | setDoorMode => exact o.ownSetDoorMode payload h
  | releaseDoor => exact o.ownReleaseDoor payload h
  | silence => exact o.ownSilence payload h
  | setInput => exact o.ownSetInput payload h
  | collect => exact o.ownCollect payload h

theorem takeRequest (k : RequestKind) (r : Req) (h : P s) : P (takeRequest k r (ownerOf k) s) :=
  takeRequest_keeps (fun _ keep h => o.takeFrame keep h) (fun _ r code reply h => o.respond r code reply h)
    (fun payload _ h => o.owner k payload h) h

theorem takeByKind (code : Byte) (r : Req) (h : P s) : P (s.takeByKind code r) := by
  unfold State.takeByKind
  split
  · exact o.takeRequest _ r h
  · unfold State.takeUnknown
    split
    · exact o.respond _ _ _ (o.takeFrame _ h)
    · exact h

/-! ## Resets and the other commands -/

theorem resetReaders (h : P s) : P s.resetReaders :=
  o.frame _ _ s.outward_resetReaders (o.engine.submitAll _ h)

/-- A reset leaves the clock and the pin, and the link OFFLINE with no silence timer. -/
theorem takeReset (cause : ResetCause) (straps : Byte) (h : P s) : P (s.takeReset cause straps) := by
  have doors := o.engine.stopDoors (o.engine.dropAllReferences (o.engine.denyAllPairings h))
  have inputs := o.engine.resetInputs o.setInput doors
  exact o.frame _ _ (s.outward_takeReset cause straps) (o.offline _ (o.submit _ _ (o.resetReaders inputs)))

theorem powerOn (straps : Byte) (closed : BitVec 32) (s : State) : Leads P (execPowerOn straps closed s) := by
  unfold execPowerOn
  refine leads_next.mpr (o.frame State.reset _ ?_ o.reset)
  simp only [State.outward]

/-- The release of the pin starts the loop and the inputs again (R173). -/
theorem resetPinRelease_of_held (hp : s.pinHeld = true) (h : P { s with pinHeld := false }) :
    Leads P (execResetPinRelease s) := by
  have free : P { s with pinHeld := false, scanDue := s.now } := o.frame { s with pinHeld := false } _ rfl h
  unfold execResetPinRelease
  rw [if_pos hp]
  exact leads_next.mpr (o.engine.beginInputs o.setInput (o.restartLoop free))

theorem resetPinRelease (h : P s) : Leads P (execResetPinRelease s) := by
  by_cases hp : s.pinHeld = true
  · exact o.resetPinRelease_of_held hp (o.released s h)
  · unfold execResetPinRelease
    rw [if_neg hp]
    exact leads_next.mpr h

theorem frameDiscarded (frame : List Byte) (h : P s) : Leads P (execFrameDiscarded frame s) := by
  refine leads_next.mpr ?_
  unfold State.hearFrame
  split
  · exact o.takeByKind _ _ h
  · exact h

theorem responseStart (h : P s) : Leads P (execResponseStart s) := by
  unfold execResponseStart
  split
  · exact leads_next.mpr h
  · exact leads_next.mpr (o.frame s _ rfl h)

theorem responseSent (straps : Byte) (h : P s) : Leads P (execResponseSent straps s) := by
  unfold execResponseSent
  split
  · dsimp only
    split
    · exact leads_next.mpr
        (o.engine.beginInputs o.setInput (o.restartLoop (o.takeReset _ _ (o.frame s _ rfl h))))
    · exact leads_next.mpr (o.frame s _ rfl h)
  · exact leads_next.mpr h

theorem silenceTimeout (h : P s) : Leads P (execSilenceTimeout s) := by
  unfold execSilenceTimeout
  split
  · exact leads_next.mpr h
  · exact leads_next.mpr (o.offline _ (o.submit _ _ (o.reach _ h)))

theorem replyReceived (bytes : List Byte) (h : P s) : Leads P (execReplyReceived bytes s) := by
  unfold execReplyReceived
  split
  · exact leads_next.mpr (o.advanceLoop (o.engine.actOnReply _ _ h))
  · exact leads_next.mpr h
  · exact leads_next.mpr h

theorem replyWindowExpiry (h : P s) : Leads P (execReplyWindowExpiry s) := by
  unfold execReplyWindowExpiry
  split
  · exact leads_next.mpr (o.advanceLoop (o.engine.readerMissed _ (o.reach _ h)))
  · exact leads_next.mpr h
  · exact leads_next.mpr h

theorem quietIntervalExpiry (h : P s) : Leads P (execQuietIntervalExpiry s) := by
  unfold execQuietIntervalExpiry
  split
  · dsimp only
    split
    · exact leads_next.mpr (o.beginRound (o.endRound (o.reach _ h)))
    · exact leads_next.mpr (o.frame s _ rfl h)
  · exact leads_next.mpr h
  · exact leads_next.mpr h

theorem contactChange (i : InputNo) (contact : Contact) (h : P s) : Leads P (execContactChange i contact s) := by
  unfold execContactChange
  split
  · exact leads_next.mpr h
  · dsimp only
    split
    · exact leads_next.mpr (o.engine.contactMoved o.setInput _ (o.setInput _ _ _ h))
    · exact leads_next.mpr (o.setInput _ _ _ h)

theorem steadyTimerExpiry (i : InputNo) (h : P s) : Leads P (execSteadyTimerExpiry i s) := by
  unfold execSteadyTimerExpiry
  split
  · exact leads_next.mpr h
  · exact leads_next.mpr (o.engine.acceptLevel o.setInput _ _ (o.setInput _ _ _ (o.reach _ h)))

theorem scannerPass (values : Vector (BitVec 10) 32) (h : P s) : Leads P (execScannerPass values s) := by
  unfold execScannerPass
  split
  · exact leads_next.mpr h
  · exact leads_next.mpr
      (foldl_keeps (fun _ i h => o.engine.scanInput o.setInput values i h) _ _ (o.frame s _ rfl h))

/-- Every command but RESET_PIN keeps the property. -/
theorem exec_keeps {c : Instr} (hc : ∀ straps, c ≠ .resetPin straps) (h : P s) : Leads P (exec c s) := by
  rcases eq_command_or_request_eq_none c with ⟨k, r, rfl⟩ | hnone
  · rw [exec_request]
    exact leads_next.mpr (o.takeRequest k r h)
  · have hreach (s : State) (moment : Nat) (h : P s) : P (s.reach moment) := o.reach moment h
    cases c with
    | powerOn straps closed => exact o.powerOn straps closed s
    | resetPin straps => exact absurd rfl (hc straps)
    | resetPinRelease => exact o.resetPinRelease h
    | secondTick => exact o.engine.secondTick (o.tickClock h)
    | frameDiscarded frame => exact o.frameDiscarded frame h
    | unknownKind code r => exact leads_next.mpr (o.takeByKind code r h)
    | responseSent straps => exact o.responseSent straps h
    | silenceTimeout => exact o.silenceTimeout h
    | replyReceived bytes => exact o.replyReceived bytes h
    | replyWindowExpiry => exact o.replyWindowExpiry h
    | quietIntervalExpiry => exact o.quietIntervalExpiry h
    | pairingDeadlineExpiry k => exact o.engine.pairingDeadlineExpiry hreach k h
    | releaseTimerExpiry k => exact o.engine.releaseTimerExpiry hreach k h
    | egressTimerExpiry k => exact o.engine.egressTimerExpiry hreach k h
    | openAllowanceExpiry k => exact o.engine.openAllowanceExpiry hreach k h
    | contactChange i contact => exact o.contactChange i contact h
    | steadyTimerExpiry i => exact o.steadyTimerExpiry i h
    | scannerPass values => exact o.scannerPass values h
    | responseStart => exact o.responseStart h
    | _ => cases hnone

end Outward

/-! ## The clock, the queue and the link -/

theorem State.outward_eq_iff {s t : State} :
    t.outward = s.outward ↔ t.clock = s.clock ∧ t.queue = s.queue ∧ t.lost = s.lost ∧ t.link = s.link ∧
      t.silence = s.silence ∧ t.pinHeld = s.pinHeld := by
  simp [State.outward]

theorem outward_clockValid : Outward fun s => s.clock.valid = true where
  frame s t hst h := by
    obtain ⟨hclock, -⟩ := State.outward_eq_iff.mp hst
    rwa [hclock]
  submit s r h := by rwa [State.submit_clock]
  clock _ _ hc h := hc h
  collected _ _ h := h
  online _ _ h := h
  offline _ h := h
  released _ h := h
  reset := by decide

/-- The lowest priority present is that of some record. -/
theorem exists_of_lowestPriority_lt {queue : List Record} (h : lowestPriority queue < 4) :
    ∃ r ∈ queue, r.priority = lowestPriority queue := by
  induction queue with
  | nil => exact absurd h (lt_irrefl 4)
  | cons x rest ih =>
    rcases Nat.le_total x.priority (lowestPriority rest) with hle | hle
    · exact ⟨x, by simp, (Nat.min_eq_left hle).symm⟩
    · have hmin : lowestPriority (x :: rest) = lowestPriority rest := Nat.min_eq_right hle
      rw [hmin] at h ⊢
      obtain ⟨r, hr, heq⟩ := ih h
      exact ⟨r, List.mem_cons_of_mem _ hr, heq⟩

theorem mem_of_mem_dropOldest {p : Nat} {r : Record} {queue : List Record} (h : r ∈ dropOldest p queue) :
    r ∈ queue := by
  induction queue with
  | nil => exact h
  | cons x rest ih =>
    unfold dropOldest at h
    split at h
    · exact List.mem_cons_of_mem _ h
    · rcases List.mem_cons.mp h with rfl | h
      · simp
      · exact List.mem_cons_of_mem _ (ih h)

/-- A record of a priority that is present gives way. -/
theorem length_dropOldest {p : Nat} {queue : List Record} (h : ∃ r ∈ queue, r.priority = p) :
    (dropOldest p queue).length + 1 = queue.length := by
  induction queue with
  | nil => simp at h
  | cons x rest ih =>
    unfold dropOldest
    split
    · rfl
    next hx =>
      obtain ⟨r, hr, hp⟩ := h
      rcases List.mem_cons.mp hr with rfl | hr
      · exact absurd hp hx
      · simp [ih ⟨r, hr, hp⟩]

theorem mem_of_mem_enqueue {r x : Record} {queue : List Record} (h : x ∈ enqueue r queue) :
    x ∈ queue ∨ x = r := by
  unfold enqueue at h
  split at h
  · simpa using h
  · split at h
    · rcases List.mem_append.mp h with h | h
      · exact Or.inl (mem_of_mem_dropOldest h)
      · exact Or.inr (by simpa using h)
    · exact Or.inl h

/-- The queue never passes its capacity, since a record displaces another at a full queue (R184). -/
theorem length_enqueue_le {r : Record} {queue : List Record} (hr : r.priority ≤ 3)
    (hq : queue.length ≤ Config.queueCapacity) : (enqueue r queue).length ≤ Config.queueCapacity := by
  unfold enqueue
  split
  next h => simpa using h
  next h =>
    split
    next hlow =>
      have := length_dropOldest (exists_of_lowestPriority_lt (lt_of_le_of_lt (hlow.trans hr) (by omega)))
      simp only [List.length_append, List.length_singleton]
      omega
    · exact hq

theorem Params.priority_le (p : Params) (k : RecordKind) : p.priority k ≤ 3 :=
  Nat.le_of_lt_succ (Fin.is_lt _)

theorem State.submit_queueWf {s : State} (r : Report) (h : s.queueWf) : (s.submit r).queueWf := by
  by_cases hp : s.params.priority r.kind = 0
  · rwa [State.submit_of_unqueued hp]
  · obtain ⟨hlength, hlost, hall⟩ := h
    have hle := s.params.priority_le r.kind
    rw [State.submit_of_queued hp]
    refine ⟨length_enqueue_le hle hlength, ?_, fun x hx => ?_⟩
    · dsimp only
      split
      · exact hlost
      · exact Nat.min_le_right _ _
    · rcases mem_of_mem_enqueue hx with hx | rfl
      · exact hall x hx
      · exact ⟨Nat.pos_of_ne_zero hp, hle⟩

theorem outward_queueWf : Outward State.queueWf where
  frame s t hst h := by
    obtain ⟨-, hqueue, hlost, -⟩ := State.outward_eq_iff.mp hst
    rwa [State.queueWf, hqueue, hlost]
  submit _ r h := State.submit_queueWf r h
  clock _ _ _ h := h
  collected s n h := by
    obtain ⟨hlength, hlost, hall⟩ := h
    exact ⟨(List.drop_sublist n s.queue).length_le.trans hlength, hlost,
      fun x hx => hall x (List.mem_of_mem_drop hx)⟩
  online _ _ h := h
  offline _ h := h
  released _ h := h
  reset := by simp [State.queueWf, State.reset]

theorem outward_linkWf : Outward State.linkWf where
  frame s t hst h := by
    obtain ⟨-, -, -, hlink, hsilence, -⟩ := State.outward_eq_iff.mp hst
    rwa [State.linkWf, hlink, hsilence]
  submit s r h := by rwa [State.linkWf, State.submit_silence, State.submit_link]
  clock _ _ _ h := h
  collected _ _ h := h
  online _ _ _ := by simp [State.linkWf]
  offline _ _ := by simp [State.linkWf]
  released _ h := h
  reset := by simp [State.linkWf, State.reset]

/-- The reset pin is not held (R173). -/
def State.pinFree (s : State) : Prop := s.pinHeld = false

theorem State.not_pinHeld_of_pinFree {s : State} (h : s.pinFree) : s.pinHeld ≠ true := by
  simpa [State.pinFree] using h

theorem outward_pinFree : Outward State.pinFree where
  frame s t hst h := by
    obtain ⟨-, -, -, -, -, hpin⟩ := State.outward_eq_iff.mp hst
    rwa [State.pinFree, hpin]
  submit s r h := by rwa [State.pinFree, State.submit_pinHeld]
  clock _ _ _ h := h
  collected _ _ h := h
  online _ _ h := h
  offline _ h := h
  released _ _ := rfl
  reset := rfl

/-- A property of the clock, the queue and the link alone is kept by RESET_PIN as well, and so by every step. -/
theorem Outward.kept {P : State → Prop} (o : Outward P) (held : ∀ s : State, P s → P { s with pinHeld := true }) :
    Kept P := by
  refine kept_of_exec (fun s h => o.frame s _ rfl h) (fun s _ h => o.frame s _ rfl h) fun c s h => ?_
  by_cases hc : ∃ straps, c = .resetPin straps
  · obtain ⟨straps, rfl⟩ := hc
    change Leads P (execResetPin straps s)
    unfold execResetPin
    split
    · exact leads_next.mpr h
    · exact leads_next.mpr (held _ (o.takeReset _ _ h))
  · exact o.exec_keeps (fun straps h => hc ⟨straps, h⟩) h

/-! ## The held pin (R173) -/

/-- Nothing is owed, sent, polled or timed at an input, and the controller is STOPPED. -/
def State.atRest (s : State) : Prop :=
  s.responses = [] ∧ s.sending = false ∧ s.loop = .silent ∧ s.run = .stopped ∧ ∀ i, (s.input i).steady = none

theorem State.pinWf_iff (s : State) : s.pinWf ↔ (s.pinHeld = true → s.atRest) := Iff.rfl

/-- Whether the part is at rest shows in five fields alone. -/
theorem State.atRest_congr {s t : State} (hresponses : t.responses = s.responses) (hsending : t.sending = s.sending)
    (hloop : t.loop = s.loop) (hrun : t.run = s.run) (hinputs : t.inputs = s.inputs) (h : s.atRest) : t.atRest := by
  unfold State.atRest State.input at *
  rwa [hresponses, hsending, hloop, hrun, hinputs]

theorem State.atRest_setPin {s : State} (held : Bool) (h : s.atRest) : State.atRest { s with pinHeld := held } := h

theorem engine_atRest : Engine State.atRest where
  submit s r h := State.atRest_congr (by simp) (by simp) (by simp) (by simp) (by simp) h
  door _ _ _ h := State.atRest_congr rfl rfl rfl rfl rfl h
  room _ _ _ h := State.atRest_congr rfl rfl rfl rfl rfl h
  reader _ _ _ h := State.atRest_congr rfl rfl rfl rfl rfl h
  pairing _ _ _ h := State.atRest_congr rfl rfl rfl rfl rfl h
  permits _ _ h := State.atRest_congr rfl rfl rfl rfl rfl h

theorem reach_atRest (s : State) (moment : Nat) (h : s.atRest) : (s.reach moment).atRest :=
  State.atRest_congr rfl rfl rfl rfl rfl h

/-- No frame is received while the pin is held (R173). -/
theorem receives_of_pinHeld {s : State} (hp : s.pinHeld = true) (r : Req) : s.receives r = false := by
  simp [State.receives, hp]

theorem takeByKind_of_pinHeld {s : State} (hp : s.pinHeld = true) (code : Byte) (r : Req) :
    s.takeByKind code r = s := by
  unfold State.takeByKind
  split
  · exact takeRequest_unreceived (receives_of_pinHeld hp r)
  · simp [State.takeUnknown, receives_of_pinHeld hp r]

/-- A contact that moves while the pin is held is only noted (R173). -/
theorem contactChange_atRest {s : State} (i : InputNo) (contact : Contact) (hp : s.pinHeld = true) (h : s.atRest) :
    Leads State.atRest (execContactChange i contact s) := by
  unfold execContactChange
  split
  · exact leads_next.mpr h
  · dsimp only
    rw [if_neg (by simp [hp])]
    obtain ⟨hresponses, hsending, hloop, hrun, hsteady⟩ := h
    refine leads_next.mpr ⟨hresponses, hsending, hloop, hrun, fun j => ?_⟩
    rw [State.input_modifyInput]
    split
    · exact hsteady i
    · exact hsteady j

/-- Resetting inputs stops the steady timer of each, and starts none. -/
theorem steady_foldl_resetInput (l : List InputNo) (s : State) (i : InputNo)
    (h : i ∈ l ∨ (s.input i).steady = none) : ((l.foldl State.resetInput s).input i).steady = none := by
  induction l generalizing s with
  | nil => simpa using h
  | cons j l ih =>
    refine ih _ ?_
    rw [State.resetInput, State.submitAll_input, State.input_modifyInput]
    split
    · exact Or.inr rfl
    next hji =>
      rcases h with h | h
      · exact Or.inl (List.mem_of_ne_of_mem (Ne.symm hji) h)
      · exact Or.inr h

theorem takeReset_loop (s : State) (cause : ResetCause) (straps : Byte) :
    (s.takeReset cause straps).loop = .silent := by
  simp only [State.takeReset, State.submit_loop, State.resetReaders]

theorem takeReset_inputs (s : State) (cause : ResetCause) (straps : Byte) :
    (s.takeReset cause straps).inputs =
      s.denyAllPairings.dropAllReferences.stopDoors.resetInputs.inputs := by
  simp only [State.takeReset, State.submit_inputs, State.resetReaders, State.submitAll_inputs]

/-- A reset leaves the part at rest; what starts again does so apart from it (R173). -/
theorem takeReset_atRest (s : State) (cause : ResetCause) (straps : Byte) : (s.takeReset cause straps).atRest := by
  refine ⟨rfl, rfl, takeReset_loop s cause straps, rfl, fun i => ?_⟩
  rw [State.input, takeReset_inputs]
  exact steady_foldl_resetInput allInputs _ i (Or.inl (List.mem_finRange i))

theorem hearFrame_of_pinHeld {s : State} (hp : s.pinHeld = true) (frame : List Byte) : s.hearFrame frame = s := by
  unfold State.hearFrame
  rw [takeByKind_of_pinHeld hp, ite_self]

/-! A part at rest has no response to begin or to end, no poll, no quiet interval and no steady timer. -/

theorem execResponseStart_of_none_owed {s : State} (h : s.responses = []) : execResponseStart s = .next s := by
  simp [execResponseStart, h]

theorem execResponseSent_of_not_sending {s : State} (h : s.sending = false) (straps : Byte) :
    execResponseSent straps s = .next s := by
  simp [execResponseSent, h]

theorem execReplyReceived_of_silent {s : State} (h : s.loop = .silent) (bytes : List Byte) :
    execReplyReceived bytes s = .next s := by
  simp [execReplyReceived, h]

theorem execReplyWindowExpiry_of_silent {s : State} (h : s.loop = .silent) : execReplyWindowExpiry s = .next s := by
  simp [execReplyWindowExpiry, h]

theorem execQuietIntervalExpiry_of_silent {s : State} (h : s.loop = .silent) :
    execQuietIntervalExpiry s = .next s := by
  simp [execQuietIntervalExpiry, h]

theorem execSteadyTimerExpiry_of_stopped {s : State} {i : InputNo} (h : (s.input i).steady = none) :
    execSteadyTimerExpiry i s = .next s := by
  simp [execSteadyTimerExpiry, h]

/-- The expiry of the silence timer concerns the link alone. -/
theorem silenceTimeout_atRest {s : State} (h : s.atRest) : Leads State.atRest (execSilenceTimeout s) := by
  unfold execSilenceTimeout
  split
  · exact leads_next.mpr h
  · exact leads_next.mpr
      (State.atRest_congr rfl rfl rfl rfl rfl (engine_atRest.submit _ _ (reach_atRest s _ h)))

/-- What a command leads to from a part at rest under a held pin: the part stays at rest, or the pin is free. -/
theorem exec_of_pinHeld (c : Instr) {s : State} (hp : s.pinHeld = true) (h : s.atRest) :
    Leads (fun t => t.pinHeld = true → t.atRest) (exec c s) := by
  have still {o : Host.Outcome State Fault Refusal} (ho : Leads State.atRest o) :
      Leads (fun t => t.pinHeld = true → t.atRest) o := fun t ht _ => ho t ht
  have unchanged {o : Host.Outcome State Fault Refusal} (ho : o = .next s) :
      Leads (fun t => t.pinHeld = true → t.atRest) o := still (ho ▸ leads_next.mpr h)
  obtain ⟨hresponses, hsending, hloop, hrun, hsteady⟩ := id h
  rcases eq_command_or_request_eq_none c with ⟨k, r, rfl⟩ | hnone
  · exact unchanged (by rw [exec_request, takeRequest_unreceived (receives_of_pinHeld hp r)])
  · cases c with
    | powerOn straps closed => exact leads_next.mpr nofun
    | resetPin straps => exact unchanged (if_pos hp)
    | resetPinRelease =>
      have free := outward_pinFree.resetPinRelease_of_held (s := s) hp rfl
      exact fun t ht held => absurd held (State.not_pinHeld_of_pinFree (free t ht))
    | secondTick => exact still (engine_atRest.secondTick (State.atRest_congr rfl rfl rfl rfl rfl h))
    | frameDiscarded frame => exact unchanged (congrArg _ (hearFrame_of_pinHeld hp frame))
    | unknownKind code r => exact unchanged (congrArg _ (takeByKind_of_pinHeld hp code r))
    | responseSent straps => exact unchanged (execResponseSent_of_not_sending hsending straps)
    | silenceTimeout => exact still (silenceTimeout_atRest h)
    | replyReceived bytes => exact unchanged (execReplyReceived_of_silent hloop bytes)
    | replyWindowExpiry => exact unchanged (execReplyWindowExpiry_of_silent hloop)
    | quietIntervalExpiry => exact unchanged (execQuietIntervalExpiry_of_silent hloop)
    | pairingDeadlineExpiry k => exact still (engine_atRest.pairingDeadlineExpiry reach_atRest k h)
    | releaseTimerExpiry k => exact still (engine_atRest.releaseTimerExpiry reach_atRest k h)
    | egressTimerExpiry k => exact still (engine_atRest.egressTimerExpiry reach_atRest k h)
    | openAllowanceExpiry k => exact still (engine_atRest.openAllowanceExpiry reach_atRest k h)
    | contactChange i contact => exact still (contactChange_atRest i contact hp h)
    | steadyTimerExpiry i => exact unchanged (execSteadyTimerExpiry_of_stopped (hsteady i))
    | scannerPass values => exact unchanged (if_pos hp)
    | responseStart => exact unchanged (execResponseStart_of_none_owed hresponses)
    | _ => cases hnone

/-- A held pin keeps the part at rest, and only RESET_PIN, which sets it at rest, holds a free pin. -/
theorem kept_pinWf : Kept State.pinWf := by
  refine kept_of_exec (fun s h => h) (fun s _ h => h) fun c s h => ?_
  cases hp : s.pinHeld with
  | true => exact exec_of_pinHeld c hp (s.pinWf_iff.mp h hp)
  | false =>
    by_cases hc : ∃ straps, c = .resetPin straps
    · obtain ⟨straps, rfl⟩ := hc
      change Leads State.pinWf (execResetPin straps s)
      unfold execResetPin
      rw [if_neg (by simp [hp])]
      exact leads_next.mpr fun _ => State.atRest_setPin true (takeReset_atRest s .pin straps)
    · have free := outward_pinFree.exec_keeps (fun straps h => hc ⟨straps, h⟩) hp
      exact fun t ht held => absurd held (State.not_pinHeld_of_pinFree (free t ht))

/-- Settles O19: the first three are properties of the clock, the queue and the link, which only the single changes of
those can touch; the fourth is the rest that the held pin keeps. -/
theorem clockQueueAndTrunkStayWellFormed : Obligations.ClockQueueAndTrunkStayWellFormed :=
  ⟨outward_clockValid.kept fun _ h => h, outward_queueWf.kept fun _ h => h, outward_linkWf.kept fun _ h => h,
    kept_pinWf⟩

end Sys2Proof.Machine

/-! # The state after reset (O13) -/

namespace Sys2Proof.Machine

/-! ## What each part holds at reset -/

theorem reset_door (k : DoorNo) : State.reset.door k = .powerOn := by
  simp [State.door, State.reset]

theorem reset_room (q : RoomNo) : State.reset.room q = .powerOn := by
  simp [State.room, State.reset]

theorem reset_pairing (k : DoorNo) : State.reset.pairing k = none := by
  simp [State.pairing, State.reset]

theorem reset_reader (a : ReaderNo) : State.reset.reader a = .powerOn := by
  simp [State.reader, State.reset]

theorem reset_input (i : InputNo) :
    State.reset.input i = .powerOn i.val (if i.val % 2 = 0 then .closed else .opened) := by
  simp [State.input, State.reset]

theorem reset_allEntries : State.reset.allEntries = [] := by
  simp [State.allEntries, reset_room, Room.powerOn]

theorem reset_entryCount (q : RoomNo) : State.reset.entryCount q = 0 := by
  simp [State.entryCount, reset_room, Room.powerOn]

theorem reset_permits : State.reset.permits = [] := rfl

theorem reset_run : State.reset.run = .stopped := rfl

theorem reset_waiting : State.reset.waiting = [] := by
  simp [State.waiting, reset_pairing]

/-! ## Block by block -/

theorem reset_permitsWf : State.reset.permitsWf := by
  simp [State.permitsWf, permitSlotsWf, permitPairsWf, Rising, State.reset]

theorem reset_tablesWf : State.reset.tablesWf := by
  simp [State.tablesWf, Rising, State.reset]

theorem reset_pairingsWf : State.reset.pairingsWf := by
  simp [State.pairingsWf, State.openPairings, reset_pairing, reset_waiting]

theorem reset_occupancyWf : State.reset.occupancyWf := by
  simp [State.occupancyWf, State.totalEntries, funext reset_entryCount, reset_allEntries]

theorem reset_referencesWf : State.reset.referencesWf := by
  simp [State.referencesWf, reset_door, reset_allEntries, DoorChannel.powerOn]

theorem reset_supervisionWf : State.reset.supervisionWf := by
  simp [State.supervisionWf, reset_room, Room.powerOn, Room.isUnescorted]

theorem reset_capsWf : State.reset.capsWf := by
  simp [State.capsWf, reset_room, Room.powerOn, reset_run]

theorem reset_doorsWf : State.reset.doorsWf := by
  intro k
  rw [reset_door]
  exact ⟨by simp [DoorChannel.wf, DoorChannel.lockDue, DoorChannel.powerOn, DoorSettings.powerOn],
    by simp [DoorChannel.powerOn, reset_run]⟩

theorem reset_inputsWf : State.reset.inputsWf := by
  intro i
  rw [reset_input]
  exact ⟨rfl, rfl, rfl, rfl, rfl⟩

theorem reset_readersWf : State.reset.readersWf :=
  ⟨fun a => by simp [reset_reader, Reader.wf, Reader.powerOn], by simp [State.reset]⟩

theorem reset_countsWf : State.reset.countsWf := by
  simp [State.countsWf, reset_allEntries, reset_permits]

theorem reset_rangesWf : State.reset.rangesWf := by
  refine ⟨by decide, fun q => ?_, fun k => ?_⟩
  · rw [reset_room]
    decide
  · rw [reset_door]
    decide

/-- Settles O13: every block is empty or at its power-on values. -/
theorem resetStateIsWellFormed : Obligations.ResetStateIsWellFormed :=
  ⟨outward_queueWf.reset, reset_permitsWf, reset_tablesWf, reset_pairingsWf, reset_occupancyWf, reset_referencesWf,
    reset_supervisionWf, reset_capsWf, reset_doorsWf, reset_inputsWf, reset_readersWf, nofun, outward_linkWf.reset,
    outward_clockValid.reset, reset_countsWf, reset_rangesWf⟩

end Sys2Proof.Machine

/-! # One permit at one reading (R38 to R41, R48 to R52) -/

namespace Sys2Proof.Machine

/-! ## The checks of a permit -/

/-- Check c: before the first day and hour, past the last ones, or neither (R50). -/
theorem dateCheck_eq (p : PermitRecord) (day minute : Nat) :
    dateCheck p day minute =
      if day < p.firstDay ∨ (day = p.firstDay ∧ minute < p.startMinute.getD 0) then some .notYet
      else if p.lastDay < day ∨ (day = p.lastDay ∧ p.endMinute.getD 1440 ≤ minute) then some .expired
      else none := by
  unfold dateCheck
  simp only [ite_or]

theorem dateCheck_eq_none_iff (p : PermitRecord) (day minute : Nat) :
    dateCheck p day minute = none ↔
      ¬(day < p.firstDay ∨ (day = p.firstDay ∧ minute < p.startMinute.getD 0)) ∧
      ¬(p.lastDay < day ∨ (day = p.lastDay ∧ p.endMinute.getD 1440 ≤ minute)) := by
  rw [dateCheck_eq]
  split <;> simp_all

theorem State.scheduleMatches_iff (s : State) (n m : Nat) :
    s.scheduleMatches n m = true ↔ n = 255 ∨ ∃ w ∈ s.schedule n, w.contains m = true := by
  simp [State.scheduleMatches]

/-- A permit does not match the minute exactly when its schedule is in the table and none of its windows holds the
minute (R39). -/
theorem State.not_scheduleMatches_iff (s : State) (n m : Nat) :
    ¬s.scheduleMatches n m = true ↔ n ≠ 255 ∧ ∀ w ∈ s.schedule n, w.contains m = false := by
  rw [State.scheduleMatches_iff]
  simp

theorem State.provisionalUnder_iff (s : State) (c : Credential) (r : RoomNo) (n : Nat) :
    s.provisionalUnder c r n = true ↔
      ∃ e ∈ (s.room r).entries, e.credential = c ∧ e.state = .provisional ∧ e.slot = n := by
  simp [State.provisionalUnder, and_assoc]

/-- Checks c to e, in order (R50, R51). -/
theorem State.calendarChecks_eq (s : State) (p : PermitRecord) (reading : Clock) :
    s.calendarChecks p reading =
      if reading.dayNumber < p.firstDay ∨
          (reading.dayNumber = p.firstDay ∧ reading.minuteOfDay < p.startMinute.getD 0) then some .notYet
      else if p.lastDay < reading.dayNumber ∨
          (reading.dayNumber = p.lastDay ∧ p.endMinute.getD 1440 ≤ reading.minuteOfDay) then some .expired
      else if p.holidayRule = .honour ∧ reading.dayNumber ∈ s.holidays then some .holiday
      else if p.schedule ≠ 255 ∧ ∀ w ∈ s.schedule p.schedule, w.contains reading.minuteOfWeek = false then
        some .outsideHours
      else none := by
  unfold State.calendarChecks
  rw [dateCheck_eq]
  split_ifs <;> simp_all [State.isHoliday, ← State.not_scheduleMatches_iff]

/-- A slot that passes every check under a SET reading passes those of the calendar. -/
theorem State.calendarChecks_eq_none {s : State} {room : RoomNo} {reading : Clock} {n : Nat} {x : PermitSlot}
    (hset : reading.state = .set) (h : s.checkSlot room reading n x = none) :
    s.calendarChecks x.permit reading = none := by
  unfold State.checkSlot at h
  rw [hset] at h
  cases hc : s.calendarChecks x.permit reading with
  | none => rfl
  | some r =>
    rw [hc] at h
    split_ifs at h

/-! ## The remaining time of windows (R38, R40) -/

theorem le_foldl_max {α : Type} (f : α → Nat) (l : List α) (best : Nat) :
    best ≤ l.foldl (fun best a => max best (f a)) best := by
  induction l generalizing best with
  | nil => exact le_rfl
  | cons a l ih => exact (le_max_left _ _).trans (ih _)

theorem foldl_max_le {α : Type} {f : α → Nat} {l : List α} {best bound : Nat} (hbest : best ≤ bound)
    (h : ∀ a ∈ l, f a ≤ bound) : l.foldl (fun best a => max best (f a)) best ≤ bound := by
  induction l generalizing best with
  | nil => exact hbest
  | cons a l ih =>
    exact ih (max_le hbest (h a List.mem_cons_self)) fun b hb => h b (List.mem_cons_of_mem a hb)

theorem apply_le_foldl_max {α : Type} {f : α → Nat} {l : List α} {a : α} (best : Nat) (ha : a ∈ l) :
    f a ≤ l.foldl (fun best a => max best (f a)) best := by
  induction l generalizing best with
  | nil => simp at ha
  | cons b l ih =>
    rcases List.mem_cons.mp ha with rfl | ha
    · exact (le_max_right _ _).trans (le_foldl_max f l _)
    · exact ih _ ha

theorem remaining_le_longestRemaining {windows : List WeeklyWindow} {w : WeeklyWindow} {m : Nat}
    (hw : w ∈ windows) (hm : w.contains m = true) : w.remaining m ≤ longestRemaining windows m :=
  apply_le_foldl_max (f := fun w : WeeklyWindow => w.remaining m) 0 (List.mem_filter.mpr ⟨hw, hm⟩)

/-- The window candidate is that of any window that holds the minute and has no less time left than the others
(R40). -/
theorem longestRemaining_eq {windows : List WeeklyWindow} {w : WeeklyWindow} {m : Nat}
    (hw : w ∈ windows.filter fun w => w.contains m)
    (hmax : ∀ v ∈ windows.filter fun w => w.contains m, v.remaining m ≤ w.remaining m) :
    longestRemaining windows m = w.remaining m :=
  le_antisymm (foldl_max_le (Nat.zero_le _) hmax)
    (remaining_le_longestRemaining (List.mem_filter.mp hw).1 (List.mem_filter.mp hw).2)

theorem WeeklyWindow.remaining_pos {w : WeeklyWindow} {m : Nat} (h : w.contains m = true) : 0 < w.remaining m :=
  Nat.sub_pos_of_lt ((w.contains_iff m).mp h)

/-! ## Entitled-until (R40, R41) -/

theorem State.entitledUntil_of_contractor {p : PermitRecord} {reading : Clock} (s : State)
    (hrole : p.role = .contractor) (hset : reading.state = .set) :
    s.entitledUntil p reading =
      if p.schedule = 255 then some p.permitEnd
      else some (min (reading.absoluteMinute + longestRemaining (s.schedule p.schedule) reading.minuteOfWeek)
        p.permitEnd) := by
  simp [State.entitledUntil, hrole, hset]

theorem State.entitledUntil_eq_none {p : PermitRecord} {reading : Clock} (s : State)
    (h : p.role = .escort ∨ reading.state = .unset) : s.entitledUntil p reading = none := by
  unfold State.entitledUntil
  rcases h with h | h
  · rw [h]
  · rw [h]
    cases p.role <;> rfl

theorem Clock.minuteOfDay_lt {c : Clock} (h : c.valid = true) : c.minuteOfDay < 1440 := by
  obtain ⟨-, hh, hm, -⟩ := c.valid_iff.mp h
  unfold Clock.minuteOfDay
  omega

/-- A valid reading within a permit's span stands before the permit's end (R40, R50). -/
theorem absoluteMinute_lt_permitEnd {p : PermitRecord} {reading : Clock} (hvalid : reading.valid = true)
    (h : dateCheck p reading.dayNumber reading.minuteOfDay = none) : reading.absoluteMinute < p.permitEnd := by
  obtain ⟨-, hend⟩ := (dateCheck_eq_none_iff _ _ _).mp h
  have hminute := Clock.minuteOfDay_lt hvalid
  unfold Clock.absoluteMinute PermitRecord.permitEnd
  generalize p.endMinute.getD 1440 = last at hend ⊢
  rcases Nat.lt_trichotomy reading.dayNumber p.lastDay with hday | hday | hday <;> omega

/-- What passing the checks of the calendar says: the span holds the reading, and the schedule its minute (R50,
R51). -/
theorem State.spans_of_calendarChecks {s : State} {p : PermitRecord} {reading : Clock}
    (h : s.calendarChecks p reading = none) :
    dateCheck p reading.dayNumber reading.minuteOfDay = none ∧
      s.scheduleMatches p.schedule reading.minuteOfWeek = true := by
  unfold State.calendarChecks at h
  cases hd : dateCheck p reading.dayNumber reading.minuteOfDay with
  | some r => simp [hd] at h
  | none =>
    rw [hd] at h
    exact ⟨rfl, by split_ifs at h; assumption⟩

/-- A contractor that passes the checks of the calendar is entitled to a time past the minute, and no later than its
permit's end (R40). -/
theorem State.exists_entitledUntil {s : State} {p : PermitRecord} {reading : Clock} (hset : reading.state = .set)
    (hvalid : reading.valid = true) (hrole : p.role = .contractor) (h : s.calendarChecks p reading = none) :
    ∃ u, s.entitledUntil p reading = some u ∧ reading.absoluteMinute < u ∧ u ≤ p.permitEnd := by
  obtain ⟨hdate, hschedule⟩ := State.spans_of_calendarChecks h
  have hend := absoluteMinute_lt_permitEnd hvalid hdate
  rw [s.entitledUntil_of_contractor hrole hset]
  rcases (s.scheduleMatches_iff _ _).mp hschedule with halways | ⟨w, hw, hm⟩
  · exact ⟨_, if_pos halways, hend, le_rfl⟩
  · by_cases halways : p.schedule = 255
    · exact ⟨_, if_pos halways, hend, le_rfl⟩
    · have hleft := (WeeklyWindow.remaining_pos hm).trans_le (remaining_le_longestRemaining hw hm)
      exact ⟨_, if_neg halways, lt_min (by omega) hend, min_le_right _ _⟩

/-! ## The statement -/

/-- The checks of one slot in their order, in the statement's terms (R49 to R52). -/
theorem State.checkSlot_eq (s : State) (room : RoomNo) (reading : Clock) (n : Nat) (x : PermitSlot) :
    s.checkSlot room reading n x =
      if x.state = .suspended then some .suspended
      else if x.permit.rooms.getLsbD room.val = false then some .wrongRoom
      else if reading.state = .set then (s.calendarChecks x.permit reading).or (s.allowanceCheck room n x)
      else s.allowanceCheck room n x := by
  unfold State.checkSlot
  cases reading.state with
  | unset => simp
  | set => cases s.calendarChecks x.permit reading <;> simp

/-- Settles O18: the checks stand in the order of R49 to R52, and the entitled-until time lies between the minute and
the permit's end because a window that holds the minute has time left. -/
theorem permitChecksAndEntitlement : Obligations.PermitChecksAndEntitlement := by
  unfold Obligations.PermitChecksAndEntitlement
  refine ⟨fun s room reading n x => ?_, fun s p reading => ⟨s.entitledUntil_eq_none, fun hrole hset => ?_⟩,
    fun s room reading n x hset hvalid hrole h =>
      State.exists_entitledUntil hset hvalid hrole (State.calendarChecks_eq_none hset h)⟩
  · rw [State.checkSlot_eq, State.calendarChecks_eq, State.allowanceCheck]
    simp only [State.provisionalUnder_iff]
    by_cases hset : reading.state = .set
    · simp only [hset, true_and, if_true]
      split_ifs <;> simp_all [Clock.minuteOfDay]
    · simp only [hset, false_and, if_false]
  · rw [s.entitledUntil_of_contractor hrole hset]
    refine ⟨fun h => if_pos h, fun h w hw hmax => ?_⟩
    rw [if_neg h, longestRemaining_eq hw hmax, PermitRecord.permitEnd]

end Sys2Proof.Machine

/-! # Presentations at the reader loop (R43, R157 to R164, R179)

A good reply whose credential the repeat filter lets through is one step of three parts: what the part notes of the
reader (`State.presented`), the decision (`State.present`), and what the loop does next (`State.advanceLoop`). The
first touches readers and records, the last the loop and the pending indications. -/

namespace Sys2Proof.Machine

/-! ## Reply frames (R179, R180) -/

theorem credentialOfBytes_extractLsb' (c : Credential) :
    credentialOfBytes (c.extractLsb' 24 8) (c.extractLsb' 16 8) (c.extractLsb' 8 8) (c.extractLsb' 0 8) = c := by
  unfold credentialOfBytes
  refine BitVec.eq_of_getLsbD_eq fun i hi => ?_
  simp only [BitVec.getLsbD_append, BitVec.getLsbD_extractLsb']
  split_ifs <;> simp <;> grind

/-- A body closed by its CRC passes the check (R180). -/
theorem crcChecks_withCrc (body : List Byte) : crcChecks (withCrc body) = true := by
  simp [crcChecks, withCrc, bytesOf16]

/-- The frame that a reader sends is judged good, with its tamper state and its credential (R159, R179). -/
theorem judgeReply_replyFrame (a : ReaderNo) (tamper : Bool) (c : Option Credential) :
    judgeReply a (replyFrame a tamper c) = .good (some tamper) c := by
  have hcrc : crcChecks (replyFrame a tamper c) = true := crcChecks_withCrc _
  have haddress : (a.val + 1) % 256 = a.val + 1 := Nat.mod_eq_of_lt (by omega)
  unfold judgeReply
  rw [hcrc]
  cases c with
  | none =>
    cases tamper <;>
      simp [replyFrame, withCrc, bytesOf16, replyTamper, replyCredential, haddress]
  | some c =>
    cases tamper <;>
      simp [replyFrame, withCrc, bytesOf16, bytesOfCredential, replyTamper, replyCredential, haddress,
        credentialOfBytes_extractLsb']

/-! ## The desk: what submitting a record looks at and changes (R181 to R184) -/

/-- The record queue with the next sequence and the lost count, and what stamps a record and gives its priority. -/
structure Desk where
  queue : List Record
  nextSequence : BitVec 32
  lost : Nat
  clock : Clock
  params : Params

def State.desk (s : State) : Desk := ⟨s.queue, s.nextSequence, s.lost, s.clock, s.params⟩

/-- Submitting a record, as the desk sees it. -/
def Desk.submit (d : Desk) (r : Report) : Desk :=
  if d.params.priority r.kind = 0 then d
  else
    { d with
      queue := enqueue ⟨d.nextSequence, d.clock.stamp, d.params.priority r.kind, r⟩ d.queue
      nextSequence := d.nextSequence + 1
      lost := if d.queue.length < Config.queueCapacity then d.lost else min (d.lost + 1) Config.lostMax }

/-- Several records in order. -/
def Desk.submitAll (d : Desk) (rs : List Report) : Desk := rs.foldl Desk.submit d

theorem Desk.submitAll_nil (d : Desk) : d.submitAll [] = d := rfl

theorem Desk.submitAll_cons (d : Desk) (r : Report) (rs : List Report) :
    d.submitAll (r :: rs) = (d.submit r).submitAll rs := rfl

theorem Desk.submitAll_singleton (d : Desk) (r : Report) : d.submitAll [r] = d.submit r := rfl

theorem Desk.submitAll_append (d : Desk) (l m : List Report) : d.submitAll (l ++ m) = (d.submitAll l).submitAll m :=
  List.foldl_append

@[simp] theorem State.desk_submit (s : State) (r : Report) : (s.submit r).desk = s.desk.submit r := by
  unfold Desk.submit
  split
  next h => rw [State.submit_of_unqueued h]
  next h =>
    rw [State.submit_of_queued h]
    rfl

@[simp] theorem State.desk_submitAll (s : State) (rs : List Report) : (s.submitAll rs).desk = s.desk.submitAll rs := by
  induction rs generalizing s with
  | nil => rfl
  | cons r rs ih => exact (ih (s.submit r)).trans (congrArg (Desk.submitAll · rs) (s.desk_submit r))

/-- States with one desk hold one queue. -/
theorem State.queue_eq_of_desk_eq {s t : State} (h : s.desk = t.desk) : s.queue = t.queue := congrArg Desk.queue h

@[simp] theorem State.desk_setDoor (s : State) (k : DoorNo) (d : DoorChannel) : (s.setDoor k d).desk = s.desk := rfl
@[simp] theorem State.desk_modifyDoor (s : State) (k : DoorNo) (f : DoorChannel → DoorChannel) :
    (s.modifyDoor k f).desk = s.desk := rfl
@[simp] theorem State.desk_setRoom (s : State) (r : RoomNo) (x : Room) : (s.setRoom r x).desk = s.desk := rfl
@[simp] theorem State.desk_modifyRoom (s : State) (r : RoomNo) (f : Room → Room) :
    (s.modifyRoom r f).desk = s.desk := rfl
@[simp] theorem State.desk_setReader (s : State) (a : ReaderNo) (x : Reader) : (s.setReader a x).desk = s.desk := rfl
@[simp] theorem State.desk_modifyReader (s : State) (a : ReaderNo) (f : Reader → Reader) :
    (s.modifyReader a f).desk = s.desk := rfl
@[simp] theorem State.desk_setPairing (s : State) (k : DoorNo) (p : Option PairingRecord) :
    (s.setPairing k p).desk = s.desk := rfl
@[simp] theorem State.desk_raiseCount (s : State) (n : Nat) : (s.raiseCount n).desk = s.desk := rfl
@[simp] theorem State.desk_returnCount (s : State) (n : Nat) (c : Credential) (w : Nat) :
    (s.returnCount n c w).desk = s.desk := rfl

/-! ## Assignments and posted indications (R156, R164) -/

/-- Assignments depend on the doors' settings alone (R156). -/
theorem State.assignment_congr {s t : State} (h : ∀ k, (t.door k).settings = (s.door k).settings) (a : ReaderNo) :
    t.assignment a = s.assignment a := by
  simp [State.assignment, h]

/-- Everything that posting an indication can do: it changes a reader, and nothing else. -/
theorem State.post_form (s : State) (a : ReaderNo) (ind : Indication) :
    ∃ readers, s.post a ind = { s with readers := readers } := by
  unfold State.post
  split
  · exact ⟨_, rfl⟩
  · exact ⟨_, rfl⟩
  · exact ⟨s.readers, rfl⟩

/-- An indication for a reader that is assigned and not OFFLINE becomes its pending one (R164). -/
theorem State.post_of_reached {s : State} {a : ReaderNo} {x : DoorNo × Direction} (hassigned : s.assignment a = some x)
    (hstate : (s.reader a).state ≠ .offline) (ind : Indication) :
    s.post a ind = s.modifyReader a fun x => { x with pending := some ind } := by
  unfold State.post
  rw [hassigned]
  cases h : (s.reader a).state with
  | offline => exact absurd h hstate
  | pending => rfl
  | online => rfl

@[simp] theorem State.post_permits (s : State) (a : ReaderNo) (ind : Indication) :
    (s.post a ind).permits = s.permits := by obtain ⟨_, h⟩ := s.post_form a ind; rw [h]
@[simp] theorem State.post_rooms (s : State) (a : ReaderNo) (ind : Indication) :
    (s.post a ind).rooms = s.rooms := by obtain ⟨_, h⟩ := s.post_form a ind; rw [h]
@[simp] theorem State.post_doors (s : State) (a : ReaderNo) (ind : Indication) :
    (s.post a ind).doors = s.doors := by obtain ⟨_, h⟩ := s.post_form a ind; rw [h]
@[simp] theorem State.post_pairings (s : State) (a : ReaderNo) (ind : Indication) :
    (s.post a ind).pairings = s.pairings := by obtain ⟨_, h⟩ := s.post_form a ind; rw [h]
@[simp] theorem State.desk_post (s : State) (a : ReaderNo) (ind : Indication) :
    (s.post a ind).desk = s.desk := by obtain ⟨_, h⟩ := s.post_form a ind; rw [h]; rfl

/-- A posted indication leaves the last presentation of every reader (R163). -/
theorem State.post_reader_last (s : State) (a b : ReaderNo) (ind : Indication) :
    ((s.post a ind).reader b).last = (s.reader b).last := by
  have moved : ((s.modifyReader a fun x => { x with pending := some ind }).reader b).last = (s.reader b).last := by
    rw [State.reader_modifyReader]
    split
    next h => rw [h]
    next => rfl
  unfold State.post
  split
  · exact moved
  · exact moved
  · rfl

/-! ## What the loop does next (R157, R158) -/

/-- The loop's own fields: the round, the address last polled, the round's readers and the phase. -/
def State.withLoop (s : State) (round : Nat) (last : Option ReaderNo) (rs : List ReaderNo) (loop : LoopPhase) :
    State :=
  { s with round := round, lastPolled := last, roundReaders := rs, loop := loop }

/-- Everything that the loop's next step can be: no poll, or one that takes the pending indication of its reader. -/
theorem State.advanceLoop_cases (s : State) :
    (∃ round last rs loop, s.advanceLoop = s.withLoop round last rs loop) ∨
      ∃ b round last rs ends, s.advanceLoop =
        (s.modifyReader b fun x => { x with pending := none }).withLoop round last rs
          (.poll b (s.reader b).pending ends) := by
  unfold State.advanceLoop
  split
  · split
    · exact .inr ⟨_, _, _, _, _, rfl⟩
    · exact .inl ⟨_, _, _, _, rfl⟩
    · unfold State.beginRound
      split
      · exact .inr ⟨_, _, _, _, _, rfl⟩
      · exact .inl ⟨_, _, _, _, rfl⟩
  · exact .inl ⟨_, _, _, _, rfl⟩

@[simp] theorem State.advanceLoop_permits (s : State) : s.advanceLoop.permits = s.permits := by
  rcases s.advanceLoop_cases with ⟨_, _, _, _, h⟩ | ⟨_, _, _, _, _, h⟩ <;> rw [h] <;> rfl
@[simp] theorem State.advanceLoop_rooms (s : State) : s.advanceLoop.rooms = s.rooms := by
  rcases s.advanceLoop_cases with ⟨_, _, _, _, h⟩ | ⟨_, _, _, _, _, h⟩ <;> rw [h] <;> rfl
@[simp] theorem State.advanceLoop_doors (s : State) : s.advanceLoop.doors = s.doors := by
  rcases s.advanceLoop_cases with ⟨_, _, _, _, h⟩ | ⟨_, _, _, _, _, h⟩ <;> rw [h] <;> rfl
@[simp] theorem State.advanceLoop_pairings (s : State) : s.advanceLoop.pairings = s.pairings := by
  rcases s.advanceLoop_cases with ⟨_, _, _, _, h⟩ | ⟨_, _, _, _, _, h⟩ <;> rw [h] <;> rfl
@[simp] theorem State.desk_advanceLoop (s : State) : s.advanceLoop.desk = s.desk := by
  rcases s.advanceLoop_cases with ⟨_, _, _, _, h⟩ | ⟨_, _, _, _, _, h⟩ <;> rw [h] <;> rfl

@[simp] theorem State.reader_withLoop (s : State) (a : ReaderNo) (round : Nat) (last : Option ReaderNo)
    (rs : List ReaderNo) (loop : LoopPhase) : (s.withLoop round last rs loop).reader a = s.reader a := rfl

theorem State.advanceLoop_reader_last (s : State) (a : ReaderNo) :
    (s.advanceLoop.reader a).last = (s.reader a).last := by
  rcases s.advanceLoop_cases with ⟨_, _, _, _, h⟩ | ⟨b, _, _, _, _, h⟩
  · rw [h, State.reader_withLoop]
  · rw [h, State.reader_withLoop, State.reader_modifyReader]
    split
    next hb => rw [hb]
    next => rfl

/-- A pending indication is still pending after the loop's next step, or the poll then sent carries it (R158, R164). -/
theorem State.advanceLoop_tells {s : State} {a : ReaderNo} {ind : Indication}
    (h : (s.reader a).pending = some ind) : s.advanceLoop.tells a ind := by
  rcases s.advanceLoop_cases with ⟨_, _, _, _, hloop⟩ | ⟨b, _, _, _, ends, hloop⟩
  · rw [hloop]
    exact .inl h
  · rw [hloop]
    by_cases hb : b = a
    · subst hb
      exact .inr ⟨ends, by rw [← h]; rfl⟩
    · refine .inl ?_
      rw [State.reader_withLoop, State.reader_modifyReader, if_neg hb, h]

/-- An indication posted for a reader that is assigned and not OFFLINE is told (R158, R164). -/
theorem State.post_advanceLoop_tells {s : State} {a : ReaderNo} {x : DoorNo × Direction}
    (hassigned : s.assignment a = some x) (hstate : (s.reader a).state ≠ .offline) (ind : Indication) :
    (s.post a ind).advanceLoop.tells a ind := by
  refine State.advanceLoop_tells ?_
  rw [State.post_of_reached hassigned hstate, State.reader_modifyReader, if_pos rfl]

/-! ## What the part notes of the reader (R160, R163) -/

/-- The part once a good reply has been taken and its presentation noted, before the decision (R160, R163). -/
def State.presented (s : State) (a : ReaderNo) (c : Credential) : State :=
  (s.readerHeard a).modifyReader a fun x => { x with last := some ⟨c, s.now⟩ }

/-- The repeat filter looks at its reader's last presentation, the elapsed time and the repeat interval (R163). -/
theorem State.repeats_congr {s t : State} {a : ReaderNo} (hlast : (t.reader a).last = (s.reader a).last)
    (hnow : t.now = s.now) (hparams : t.params = s.params) (c : Credential) : t.repeats a c = s.repeats a c := by
  simp [State.repeats, hlast, hnow, hparams]

theorem State.readerHeard_reader (s : State) (a : ReaderNo) :
    (s.readerHeard a).reader a = { s.reader a with misses := 0, state := .online } := by
  unfold State.readerHeard
  dsimp only
  split <;> simp [State.reader_setReader]

/-- Everything that a good reply can change before its presentation: readers and records. -/
theorem State.readerHeard_form (s : State) (a : ReaderNo) :
    ∃ readers q n l, s.readerHeard a = { s with readers := readers, queue := q, nextSequence := n, lost := l } := by
  unfold State.readerHeard
  dsimp only
  split
  · obtain ⟨q, n, l, h⟩ := State.submit_form
      (s.setReader a { s.reader a with misses := 0, state := .online }) (s.readerReport .readerOnline a)
    exact ⟨_, q, n, l, h⟩
  · exact ⟨_, s.queue, s.nextSequence, s.lost, rfl⟩

/-- A reported tamper state that is the one held changes nothing (R161). -/
theorem State.readerTamper_of_same {s : State} {a : ReaderNo} {tamper : Bool} (h : (s.reader a).tamper = tamper) :
    s.readerTamper a (some tamper) = s := by
  simp [State.readerTamper, h]

/-- A reply with a credential that is not a repeat: the part notes it, decides, and the loop goes on (R157, R159,
R162). -/
theorem exec_replyReceived_presentation {s : State} {a : ReaderNo} {c : Credential} {ind : Option Indication}
    {ends : Nat} (hloop : s.loop = .poll a ind ends) (hrepeats : s.repeats a c = false) :
    exec (.replyReceived (replyFrame a (s.reader a).tamper (some c))) s =
      .next ((s.presented a c).present a c).advanceLoop := by
  have hreader := s.readerHeard_reader a
  have htamper : (s.readerHeard a).readerTamper a (some (s.reader a).tamper) = s.readerHeard a :=
    State.readerTamper_of_same (by rw [hreader])
  obtain ⟨_, _, _, _, hform⟩ := s.readerHeard_form a
  have hnow : (s.readerHeard a).now = s.now := by rw [hform]
  have hfilter : (s.readerHeard a).repeats a c = false := by
    rw [State.repeats_congr (by rw [hreader]) hnow (by rw [hform]), hrepeats]
  have hread : (s.readerHeard a).readCredential a c = (s.presented a c).present a c := by
    simp [State.readCredential, hfilter, State.presented, hnow]
  show execReplyReceived _ s = _
  unfold execReplyReceived
  rw [hloop]
  dsimp only
  rw [judgeReply_replyFrame]
  show Host.Outcome.next (s.goodReply a (some (s.reader a).tamper) (some c)).advanceLoop = _
  unfold State.goodReply
  dsimp only
  rw [htamper, hread]

theorem State.presented_form (s : State) (a : ReaderNo) (c : Credential) :
    ∃ readers q n l,
      s.presented a c = { s with readers := readers, queue := q, nextSequence := n, lost := l } := by
  obtain ⟨_, q, n, l, h⟩ := s.readerHeard_form a
  exact ⟨_, q, n, l, by rw [State.presented, h]; rfl⟩

theorem State.presented_reader (s : State) (a : ReaderNo) (c : Credential) :
    (s.presented a c).reader a =
      { s.reader a with misses := 0, state := .online, last := some ⟨c, s.now⟩ } := by
  rw [State.presented, State.reader_modifyReader, if_pos rfl, State.readerHeard_reader]

/-- A reader that is not OFFLINE gives no record of its own (R160). -/
theorem State.desk_presented {s : State} {a : ReaderNo} (h : (s.reader a).state ≠ .offline) (c : Credential) :
    (s.presented a c).desk = s.desk := by
  simp [State.presented, State.readerHeard, h]

/-- What is read of the state without looking at the readers or the records. -/
def Aside {β : Type} (f : State → β) : Prop :=
  ∀ (s : State) readers q n l, f { s with readers := readers, queue := q, nextSequence := n, lost := l } = f s

/-- Noting a presentation changes nothing but readers and records. -/
theorem Aside.presented {β : Type} {f : State → β} (hf : Aside f) (s : State) (a : ReaderNo) (c : Credential) :
    f (s.presented a c) = f s := by
  obtain ⟨readers, q, n, l, h⟩ := s.presented_form a c
  rw [h]
  exact hf s readers q n l

end Sys2Proof.Machine

/-! # The stages of an entry decision (R43 to R61), and its denials (R65) -/

namespace Sys2Proof.Machine

/-! ## Stages 1 and 2 (R46, R47) -/

section
variable {s : State} {k : DoorNo}

theorem State.stage1_of_stopped (h : s.run = .stopped) : s.stage1 k = some .notRunning := if_pos h

theorem State.stage1_of_running (h : s.run = .running) :
    s.stage1 k =
      if (s.door k).mode = .outOfService then some .doorOutOfService
      else if (s.door k).mode = .lockdown then some .lockdown
      else if (s.door k).settings.denyOnFault = true ∧ (s.input ⟨2 * k.val, by omega⟩).fault ≠ .none then
        some .doorFault
      else none := by
  simp [State.stage1, h]

theorem State.stage1_of_working (hrun : s.run = .running) (hmode : (s.door k).mode = .normal)
    (hfault : ¬((s.door k).settings.denyOnFault = true ∧ (s.input ⟨2 * k.val, by omega⟩).fault ≠ .none)) :
    s.stage1 k = none := by
  rw [State.stage1_of_running hrun, hmode, if_neg nofun, if_neg nofun, if_neg hfault]

theorem State.stage2_eq (s : State) (c : Credential) :
    s.stage2 c =
      if c = 0 then none
      else if c ∈ s.exactList then some .revoked
      else if positionOf c ∈ s.filter then some .revokedFilter
      else none := by
  simp only [State.stage2, State.revocation, State.positionSet, List.contains_iff_mem]
  split_ifs <;> rfl

theorem State.stage2_of_clear {c : Credential} (h : c = 0 ∨ (c ∉ s.exactList ∧ positionOf c ∉ s.filter)) :
    s.stage2 c = none := by
  rw [State.stage2_eq]
  rcases h with hc | ⟨hexact, hfilter⟩
  · exact if_pos hc
  · simp [hexact, hfilter]

/-! ## Stage 3: the search over permits (R48 to R54) -/

theorem depthOf_eq_depth (r : Reason) : depthOf r = r.depth := by cases r <;> rfl

/-- Every check that a slot can fail has a depth (R54). -/
theorem State.depth_pos_of_checkSlot {room : RoomNo} {reading : Clock} {n : Nat} {x : PermitSlot} {r : Reason}
    (h : s.checkSlot room reading n x = some r) : 0 < r.depth := by
  rw [State.checkSlot_eq, State.calendarChecks_eq, State.allowanceCheck] at h
  split_ifs at h <;> simp at h <;> subst h <;> decide

/-- Failures no deeper than the deepest so far do not change the outcome (R54). -/
theorem State.searchSlots_of_no_deeper {room : RoomNo} {reading : Clock} {best : Reason × Option (Nat × Nat)}
    {slots : List (Nat × PermitSlot)}
    (h : ∀ e ∈ slots, ∃ r, s.checkSlot room reading e.1 e.2 = some r ∧ r.depth ≤ best.1.depth) :
    s.searchSlots room reading best slots = .fails best.1 best.2 := by
  induction slots with
  | nil => rfl
  | cons e slots ih =>
    obtain ⟨r, hr, hle⟩ := h e List.mem_cons_self
    simp only [State.searchSlots, hr, Nat.not_lt.mpr hle, if_false]
    exact ih fun e he => h e (List.mem_cons_of_mem _ he)

/-- The deepest failure, of the lowest slot, gives the reason (R54). -/
theorem State.searchSlots_of_deepest {room : RoomNo} {reading : Clock} {best : Reason × Option (Nat × Nat)}
    {before after : List (Nat × PermitSlot)} {n : Nat} {x : PermitSlot} {reason : Reason}
    (hbest : best.1.depth < reason.depth) (hx : s.checkSlot room reading n x = some reason)
    (hbefore : ∀ e ∈ before, ∃ r, s.checkSlot room reading e.1 e.2 = some r ∧ r.depth < reason.depth)
    (hafter : ∀ e ∈ after, ∃ r, s.checkSlot room reading e.1 e.2 = some r ∧ r.depth ≤ reason.depth) :
    s.searchSlots room reading best (before ++ (n, x) :: after) =
      .fails reason (some (n, x.permit.workOrder)) := by
  induction before generalizing best with
  | nil =>
    simp only [List.nil_append, State.searchSlots, hx, hbest, if_true]
    exact State.searchSlots_of_no_deeper hafter
  | cons e before ih =>
    obtain ⟨r, hr, hlt⟩ := hbefore e List.mem_cons_self
    have hrest := fun e he => hbefore e (List.mem_cons_of_mem _ he)
    simp only [List.cons_append, State.searchSlots, hr]
    split
    · exact ih hlt hrest
    · exact ih hbest hrest

/-- The first slot that passes qualifies (R53). -/
theorem State.searchSlots_of_first {room : RoomNo} {reading : Clock} {best : Reason × Option (Nat × Nat)}
    {before after : List (Nat × PermitSlot)} {n : Nat} {x : PermitSlot}
    (hx : s.checkSlot room reading n x = none)
    (hbefore : ∀ e ∈ before, s.checkSlot room reading e.1 e.2 ≠ none) :
    s.searchSlots room reading best (before ++ (n, x) :: after) = .qualifies ⟨n, x.permit⟩ := by
  induction before generalizing best with
  | nil => simp only [List.nil_append, State.searchSlots, hx]
  | cons e before ih =>
    obtain ⟨r, hr⟩ := Option.ne_none_iff_exists'.mp (hbefore e List.mem_cons_self)
    have hrest := fun e he => hbefore e (List.mem_cons_of_mem _ he)
    simp only [List.cons_append, State.searchSlots, hr]
    split <;> exact ih hrest

theorem State.searchPermits_nil (room : RoomNo) (reading : Clock) :
    s.searchPermits room reading [] = .fails .unknownCredential none := rfl

theorem State.searchPermits_of_unset {room : RoomNo} {reading : Clock} {slots : List (Nat × PermitSlot)}
    (hslots : slots ≠ []) (hunset : reading.state = .unset) (hdeny : s.params.policy = .deny) :
    s.searchPermits room reading slots = .fails .clockUnset none := by
  simp [State.searchPermits, hslots, hunset, hdeny]

/-- Under a SET reading, or with policy DATELESS, the slots are searched (R48). -/
theorem State.searchPermits_of_searched {room : RoomNo} {reading : Clock} {slots : List (Nat × PermitSlot)}
    (hslots : slots ≠ []) (h : reading.state = .set ∨ s.params.policy = .dateless) :
    s.searchPermits room reading slots = s.searchSlots room reading (.unknownCredential, none) slots := by
  rcases h with h | h <;> simp [State.searchPermits, hslots, h]

section
variable {room : RoomNo} {reading : Clock} {before after : List (Nat × PermitSlot)} {n : Nat} {x : PermitSlot}
  (hreading : reading.state = .set ∨ s.params.policy = .dateless)
include hreading

theorem State.searchPermits_of_deepest {reason : Reason} (hx : s.checkSlot room reading n x = some reason)
    (hbefore : ∀ e ∈ before, ∃ r, s.checkSlot room reading e.1 e.2 = some r ∧ r.depth < reason.depth)
    (hafter : ∀ e ∈ after, ∃ r, s.checkSlot room reading e.1 e.2 = some r ∧ r.depth ≤ reason.depth) :
    s.searchPermits room reading (before ++ (n, x) :: after) = .fails reason (some (n, x.permit.workOrder)) :=
  (State.searchPermits_of_searched (by simp) hreading).trans
    (State.searchSlots_of_deepest (State.depth_pos_of_checkSlot hx) hx hbefore hafter)

theorem State.searchPermits_of_first (hx : s.checkSlot room reading n x = none)
    (hbefore : ∀ e ∈ before, s.checkSlot room reading e.1 e.2 ≠ none) :
    s.searchPermits room reading (before ++ (n, x) :: after) = .qualifies ⟨n, x.permit⟩ :=
  (State.searchPermits_of_searched (by simp) hreading).trans (State.searchSlots_of_first hx hbefore)

end

/-! ## Stage 4 (R56 to R59) -/

theorem State.needsHeadEnd_iff {room : RoomNo} {role : Role} :
    s.needsHeadEnd room role = true ↔
      role = .contractor ∧ (s.room room).settings.onlineOnly = true ∧ s.link = .offline := by
  simp [State.needsHeadEnd, and_assoc]

theorem State.capPassage_of_full {room : RoomNo} {adds needed : Nat}
    (h : (s.room room).settings.cap < s.entryCount room + adds) :
    s.capPassage room adds needed = .denied .roomFull := by
  simp [State.capPassage, State.capCheck, h]

theorem State.capPassage_of_drained {room : RoomNo} {adds needed : Nat}
    (hcap : ¬(s.room room).settings.cap < s.entryCount room + adds) (hpool : s.freeCount < needed) :
    s.capPassage room adds needed = .denied .occupancyFull := by
  simp [State.capPassage, State.capCheck, hcap, hpool]

theorem State.capPassage_of_place {room : RoomNo} {adds needed : Nat}
    (hcap : ¬(s.room room).settings.cap < s.entryCount room + adds) (hpool : ¬s.freeCount < needed) :
    s.capPassage room adds needed = .newEntry := by
  simp [State.capPassage, State.capCheck, hcap, hpool]

theorem State.stage4_of_offline {c : Credential} {role : Role} (h : s.needsHeadEnd (s.roomOf k) role = true) :
    s.stage4 k c role = .denied .headendOffline := by
  rw [State.stage4, if_pos h]

variable {c : Credential} {role : Role} (honline : ¬s.needsHeadEnd (s.roomOf k) role = true)
include honline

theorem State.stage4_of_outside (h : s.findEntry c = none) :
    s.stage4 k c role = s.capPassage (s.roomOf k) 1 1 := by
  simp [State.stage4, State.entryPassage, honline, h]

theorem State.stage4_of_elsewhere {r : RoomNo} {e : Entry} (h : s.findEntry c = some (r, e)) (hr : r ≠ s.roomOf k) :
    s.stage4 k c role = s.capPassage (s.roomOf k) 1 0 := by
  simp [State.stage4, State.entryPassage, honline, h, hr]

theorem State.stage4_of_provisional {e : Entry} (h : s.findEntry c = some (s.roomOf k, e))
    (he : e.state = .provisional) :
    s.stage4 k c role = if e.door = k then .regrant e else s.capPassage (s.roomOf k) 0 0 := by
  simp [State.stage4, State.entryPassage, honline, h, he]

theorem State.stage4_of_confirmed {e : Entry} (h : s.findEntry c = some (s.roomOf k, e)) (he : e.state = .confirmed) :
    s.stage4 k c role =
      if (s.room (s.roomOf k)).settings.passback = true then .denied .passback else .overOwn := by
  simp [State.stage4, State.entryPassage, honline, h, he]

/-- What passes the cap check for itself goes on to the policy of the room (R57, R59). -/
theorem State.stage4_of_mayEnter (h : s.mayEnter k c) : s.stage4 k c role = .newEntry := by
  rcases h with ⟨hnone, hcap, hpool⟩ | ⟨r, e, he, ⟨hr, hcap⟩ | ⟨rfl, hstate, hdoor, hcap⟩⟩
  · rw [State.stage4_of_outside honline hnone]
    exact State.capPassage_of_place (by omega) (by unfold State.freeCount Config.poolSize; omega)
  · rw [State.stage4_of_elsewhere honline he hr]
    exact State.capPassage_of_place (by omega) (by omega)
  · rw [State.stage4_of_provisional honline he hstate, if_neg hdoor]
    exact State.capPassage_of_place (by omega) (by omega)

end

/-! ## From stage to stage (R43, R60) -/

section
variable {s : State} {k : DoorNo} {a : ReaderNo} {c : Credential}

theorem State.entryPresentation_of_stage1 {r : Reason} (h : s.stage1 k = some r) :
    s.entryPresentation k a c = s.deny k a c r none := by
  simp [State.entryPresentation, h]

theorem State.entryPresentation_of_stage2 {r : Reason} (h1 : s.stage1 k = none) (h2 : s.stage2 c = some r) :
    s.entryPresentation k a c = s.deny k a c r none := by
  simp [State.entryPresentation, h1, h2]

theorem State.entryPresentation_of_fails {r : Reason} {p : Option (Nat × Nat)} (h1 : s.stage1 k = none)
    (h2 : s.stage2 c = none) (h3 : s.searchPermits (s.roomOf k) s.clock (s.slotsOf c) = .fails r p) :
    s.entryPresentation k a c = s.deny k a c r p := by
  simp [State.entryPresentation, h1, h2, h3]

theorem State.entryPresentation_of_qualifies {q : Qualifying} (h1 : s.stage1 k = none) (h2 : s.stage2 c = none)
    (h3 : s.searchPermits (s.roomOf k) s.clock (s.slotsOf c) = .qualifies q) :
    s.entryPresentation k a c = s.decideRoom ⟨k, a, c, q, s.clock⟩ := by
  simp [State.entryPresentation, h1, h2, h3]

end

section
variable {s : State} {x : Arrival}

theorem State.decideRoom_of_denied {r : Reason}
    (h : s.stage4 x.door x.credential x.permit.permit.role = .denied r) :
    s.decideRoom x = s.deny x.door x.reader x.credential r x.permit.carried := by
  simp [State.decideRoom, h]

theorem State.decideRoom_of_regrant {e : Entry}
    (h : s.stage4 x.door x.credential x.permit.permit.role = .regrant e) :
    s.decideRoom x = s.regrant x.door x.reader e := by
  simp [State.decideRoom, h]

theorem State.decideRoom_of_overOwn (h : s.stage4 x.door x.credential x.permit.permit.role = .overOwn) :
    s.decideRoom x = s.grantSingle x.door x.reader x.credential x.permit 0 x.reading := by
  simp [State.decideRoom, h]

theorem State.escortInside_iff (q : RoomNo) : s.escortInside q = true ↔ s.escorted q := by
  simp [State.escortInside, State.escorted, Entry.confirmedAs]

/-- A new entry under a policy that grants it alone (R60). -/
theorem State.decideRoom_of_grantsAlone
    (h : s.stage4 x.door x.credential x.permit.permit.role = .newEntry) (halone : s.grantsAlone (s.roomOf x.door)) :
    s.decideRoom x = s.grantSingle x.door x.reader x.credential x.permit 1 x.reading := by
  rcases halone with hp | ⟨hp, he⟩
  · simp [State.decideRoom, h, State.stage5, hp]
  · simp [State.decideRoom, h, State.stage5, hp, (State.escortInside_iff _).mpr he]

/-- A new entry under a policy that hands it to the pairing table (R60). -/
theorem State.decideRoom_of_pairsUp
    (h : s.stage4 x.door x.credential x.permit.permit.role = .newEntry) (hpairs : s.pairsUp (s.roomOf x.door)) :
    s.decideRoom x = s.arrive x := by
  rcases hpairs with hp | ⟨hp, he⟩
  · simp [State.decideRoom, h, State.stage5, hp]
  · have he : ¬s.escortInside (s.roomOf x.door) = true := mt (State.escortInside_iff _).mp he
    simp [State.decideRoom, h, State.stage5, hp, he]

/-! ## Denials at the door and at the pairing table (R61, R72, R73) -/

/-- A release that finds the list of a closed door full denies a lone grant (R61). -/
theorem State.grantSingle_of_busy {k : DoorNo} {n : Nat} (a : ReaderNo) (c : Credential) (q : Qualifying)
    (reading : Clock) (hclosed : (s.door k).state = .secure ∨ (s.door k).state = .released)
    (hfull : 8 < (s.door k).provisional.length + n) :
    s.grantSingle k a c q n reading = s.deny k a c .doorBusy q.carried := by
  simp [State.grantSingle, State.requestRelease, DoorChannel.requestRelease_busy _ s.now n hclosed hfull]

/-- A door with no record finds the table full (R72). -/
theorem State.arrive_of_table_full (hnone : s.pairing x.door = none) (hfull : 8 ≤ s.openPairings) :
    s.arrive x = s.deny x.door x.reader x.credential .pairingBusy x.permit.carried := by
  have hfull : Config.pairingCapacity ≤ s.openPairings := hfull
  simp [State.arrive, hnone, State.openRecord, hfull]

theorem PairingRecord.has_iff (p : PairingRecord) (c : Credential) :
    p.has c = true ↔ ∃ m ∈ p.escort.toList ++ p.contractors, m.credential = c := by
  simp only [PairingRecord.has, PairingRecord.members, List.any_eq_true, beq_iff_eq]

theorem PairingRecord.not_has_iff (p : PairingRecord) (c : Credential) :
    p.has c = false ↔ ∀ m ∈ p.escort.toList ++ p.contractors, m.credential ≠ c := by
  rw [← Bool.not_eq_true, PairingRecord.has_iff]
  simp

theorem State.arrive_of_stranger {p : PairingRecord} (hp : s.pairing x.door = some p)
    (hnew : p.has x.credential = false) : s.arrive x = s.joinRecord x p := by
  simp [State.arrive, hp, hnew]

/-- A contractor finds a contractor record full (R73). -/
theorem State.joinRecord_of_group_full {p : PairingRecord} (hrole : x.permit.permit.role = .contractor)
    (hescort : p.escort = none) (hfull : 4 ≤ p.contractors.length) :
    s.joinRecord x p = s.deny x.door x.reader x.credential .groupFull x.permit.carried := by
  have hfull : ¬p.contractors.length < Config.groupContractors := Nat.not_lt.mpr hfull
  simp [State.joinRecord, hrole, hescort, hfull]

end

/-! ## What a decision reads once the presentation is noted -/

section
variable (s : State) (a : ReaderNo) (c : Credential)

@[simp] theorem State.presented_now : (s.presented a c).now = s.now :=
  Aside.presented (f := State.now) (fun _ _ _ _ _ => rfl) s a c
@[simp] theorem State.presented_clock : (s.presented a c).clock = s.clock :=
  Aside.presented (f := State.clock) (fun _ _ _ _ _ => rfl) s a c
@[simp] theorem State.presented_params : (s.presented a c).params = s.params :=
  Aside.presented (f := State.params) (fun _ _ _ _ _ => rfl) s a c
@[simp] theorem State.presented_permits : (s.presented a c).permits = s.permits :=
  Aside.presented (f := State.permits) (fun _ _ _ _ _ => rfl) s a c
@[simp] theorem State.presented_rooms : (s.presented a c).rooms = s.rooms :=
  Aside.presented (f := State.rooms) (fun _ _ _ _ _ => rfl) s a c
@[simp] theorem State.presented_doors : (s.presented a c).doors = s.doors :=
  Aside.presented (f := State.doors) (fun _ _ _ _ _ => rfl) s a c
@[simp] theorem State.presented_pairings : (s.presented a c).pairings = s.pairings :=
  Aside.presented (f := State.pairings) (fun _ _ _ _ _ => rfl) s a c
@[simp] theorem State.presented_door (k : DoorNo) : (s.presented a c).door k = s.door k :=
  Aside.presented (f := (·.door k)) (fun _ _ _ _ _ => rfl) s a c
@[simp] theorem State.presented_pairing (k : DoorNo) : (s.presented a c).pairing k = s.pairing k :=
  Aside.presented (f := (·.pairing k)) (fun _ _ _ _ _ => rfl) s a c
@[simp] theorem State.presented_roomOf (k : DoorNo) : (s.presented a c).roomOf k = s.roomOf k :=
  Aside.presented (f := (·.roomOf k)) (fun _ _ _ _ _ => rfl) s a c
@[simp] theorem State.presented_assignment (b : ReaderNo) : (s.presented a c).assignment b = s.assignment b :=
  Aside.presented (f := (·.assignment b)) (fun _ _ _ _ _ => rfl) s a c
@[simp] theorem State.presented_stage1 (k : DoorNo) : (s.presented a c).stage1 k = s.stage1 k :=
  Aside.presented (f := (·.stage1 k)) (fun _ _ _ _ _ => rfl) s a c
@[simp] theorem State.presented_stage2 (b : Credential) : (s.presented a c).stage2 b = s.stage2 b :=
  Aside.presented (f := (·.stage2 b)) (fun _ _ _ _ _ => rfl) s a c
@[simp] theorem State.presented_slotsOf (b : Credential) : (s.presented a c).slotsOf b = s.slotsOf b :=
  Aside.presented (f := (·.slotsOf b)) (fun _ _ _ _ _ => rfl) s a c
@[simp] theorem State.presented_checkSlot (room : RoomNo) (reading : Clock) (n : Nat) (x : PermitSlot) :
    (s.presented a c).checkSlot room reading n x = s.checkSlot room reading n x :=
  Aside.presented (f := (·.checkSlot room reading n x)) (fun _ _ _ _ _ => rfl) s a c
@[simp] theorem State.presented_stage4 (k : DoorNo) (b : Credential) (role : Role) :
    (s.presented a c).stage4 k b role = s.stage4 k b role :=
  Aside.presented (f := (·.stage4 k b role)) (fun _ _ _ _ _ => rfl) s a c
@[simp] theorem State.presented_grantsAlone (room : RoomNo) :
    (s.presented a c).grantsAlone room = s.grantsAlone room :=
  Aside.presented (f := (·.grantsAlone room)) (fun _ _ _ _ _ => rfl) s a c
@[simp] theorem State.presented_pairsUp (room : RoomNo) : (s.presented a c).pairsUp room = s.pairsUp room :=
  Aside.presented (f := (·.pairsUp room)) (fun _ _ _ _ _ => rfl) s a c
@[simp] theorem State.presented_openPairings : (s.presented a c).openPairings = s.openPairings :=
  Aside.presented (f := (·.openPairings)) (fun _ _ _ _ _ => rfl) s a c
@[simp] theorem State.presented_denial (k : DoorNo) (reader : Option ReaderNo) (b : Credential) (reason : Reason)
    (permit : Option (Nat × Nat)) :
    (s.presented a c).denial k reader b reason permit = s.denial k reader b reason permit :=
  Aside.presented (f := (·.denial k reader b reason permit)) (fun _ _ _ _ _ => rfl) s a c

/-- The search depends on the checks of its slots. -/
theorem State.searchSlots_congr {s t : State} {room : RoomNo} {reading : Clock}
    (h : ∀ n x, t.checkSlot room reading n x = s.checkSlot room reading n x)
    (best : Reason × Option (Nat × Nat)) (slots : List (Nat × PermitSlot)) :
    t.searchSlots room reading best slots = s.searchSlots room reading best slots := by
  induction slots generalizing best with
  | nil => rfl
  | cons e slots ih => simp only [State.searchSlots, h, ih]

@[simp] theorem State.presented_searchPermits (room : RoomNo) (reading : Clock) (slots : List (Nat × PermitSlot)) :
    (s.presented a c).searchPermits room reading slots = s.searchPermits room reading slots := by
  simp only [State.searchPermits, State.presented_params, State.searchSlots_congr (s.presented_checkSlot a c room reading)]

end

/-- A presentation that qualifies at the entry side of a door, as the decision takes it (R43 to R56). -/
theorem State.present_of_qualifiesAt {s : State} {a : ReaderNo} {k : DoorNo} {c : Credential} {q : Qualifying}
    (hassignment : s.assignment a = some (k, .entry)) (h1 : s.stage1 k = none) (h2 : s.stage2 c = none)
    (h3 : s.searchPermits (s.roomOf k) s.clock (s.slotsOf c) = .qualifies q) :
    (s.presented a c).present a c = (s.presented a c).decideRoom ⟨k, a, c, q, s.clock⟩ := by
  have hq := State.entryPresentation_of_qualifies (s := s.presented a c) (k := k) (a := a) (c := c) (q := q)
    (by simpa using h1) (by simpa using h2) (by simpa using h3)
  simpa [State.present, hassignment] using hq

/-! ## Refused presentations -/

/-- A presentation that leaves one record and its reader's last presentation, and changes no permit, room, pairing
record or door. -/
def State.refuses (s : State) (a : ReaderNo) (c : Credential) (report : Report) (told : State → Prop) : Prop :=
  ∃ t : State, exec (.replyReceived (replyFrame a (s.reader a).tamper (some c))) s = .next t ∧
    t.queue = (s.submit report).queue ∧ t.permits = s.permits ∧ t.rooms = s.rooms ∧
    t.pairings = s.pairings ∧ t.doors = s.doors ∧ (t.reader a).last = some ⟨c, s.now⟩ ∧ told t

section
variable {s : State} {a : ReaderNo} {c : Credential} {ind : Option Indication} {ends : Nat}
  (hloop : s.loop = .poll a ind ends) (hstate : (s.reader a).state ≠ .offline) (hrepeats : s.repeats a c = false)
include hloop hstate hrepeats

/-- A decision that submits one record and posts one indication refuses. -/
theorem State.refuses_of_present {report : Report} {told : Indication} {P : State → Prop}
    (h : (s.presented a c).present a c = ((s.presented a c).submit report).post a told)
    (htold : P (((s.presented a c).submit report).post a told).advanceLoop) : s.refuses a c report P := by
  refine ⟨_, exec_replyReceived_presentation hloop hrepeats, ?_⟩
  rw [h]
  refine ⟨State.queue_eq_of_desk_eq ?_, ?_, ?_, ?_, ?_, ?_, htold⟩
  · simp [State.desk_presented hstate]
  · simp
  · simp
  · simp
  · simp
  · rw [State.advanceLoop_reader_last, State.post_reader_last, State.submit_reader, State.presented_reader]

/-- A denial refuses with its ENTRY_DENIED record, and the reader is told (R65). -/
theorem State.refuses_of_deny {k : DoorNo} {reason : Reason} {permit : Option (Nat × Nat)}
    (hassignment : s.assignment a = some (k, .entry))
    (h : (s.presented a c).entryPresentation k a c = (s.presented a c).deny k a c reason permit) :
    s.refuses a c (s.denial k (some a) c reason permit) fun t => t.tells a (.deny reason) := by
  refine State.refuses_of_present hloop hstate hrepeats (told := .deny reason) ?_
    (State.post_advanceLoop_tells (x := (k, .entry)) ?_ ?_ _)
  · simpa [State.present, hassignment, State.deny] using h
  · rw [State.assignment_congr (s := s) (fun k => by simp), hassignment]
  · simp [State.presented_reader]

end

end Sys2Proof.Machine

/-! # Denied presentations (O49) -/

namespace Sys2Proof.Machine

section
variable {s : State} {a : ReaderNo} {c : Credential} {ind : Option Indication} {ends : Nat} {k : DoorNo}
  {reason : Reason}
  (hloop : s.loop = .poll a ind ends) (hstate : (s.reader a).state ≠ .offline) (hrepeats : s.repeats a c = false)
include hloop hstate hrepeats

theorem State.refuses_of_unassigned (hassignment : s.assignment a = none) :
    s.refuses a c { kind := .unassignedReader, reader := some a, credential := some c } fun _ => True :=
  State.refuses_of_present hloop hstate hrepeats (told := .deny .doorOutOfService)
    (by simp [State.present, hassignment, State.unassignedPresentation]) trivial

variable (hassignment : s.assignment a = some (k, .entry))
include hassignment

theorem State.refuses_of_stage1 (h : s.stage1 k = some reason) :
    s.refuses a c (s.denial k (some a) c reason none) fun t => t.tells a (.deny reason) :=
  State.refuses_of_deny hloop hstate hrepeats hassignment (State.entryPresentation_of_stage1 (by simpa using h))

variable (h1 : s.stage1 k = none)
include h1

theorem State.refuses_of_stage2 (h2 : s.stage2 c = some reason) :
    s.refuses a c (s.denial k (some a) c reason none) fun t => t.tells a (.deny reason) :=
  State.refuses_of_deny hloop hstate hrepeats hassignment
    (State.entryPresentation_of_stage2 (by simpa using h1) (by simpa using h2))

variable (h2 : s.stage2 c = none)
include h2

theorem State.refuses_of_search {permit : Option (Nat × Nat)}
    (h3 : s.searchPermits (s.roomOf k) s.clock (s.slotsOf c) = .fails reason permit) :
    s.refuses a c (s.denial k (some a) c reason permit) fun t => t.tells a (.deny reason) :=
  State.refuses_of_deny hloop hstate hrepeats hassignment
    (State.entryPresentation_of_fails (by simpa using h1) (by simpa using h2) (by simpa using h3))

variable {q : Qualifying} (h3 : s.searchPermits (s.roomOf k) s.clock (s.slotsOf c) = .qualifies q)
include h3

/-- A denial after a permit has qualified names its slot and work order (R65). -/
theorem State.refuses_of_decideRoom
    (h : (s.presented a c).decideRoom ⟨k, a, c, q, s.clock⟩ = (s.presented a c).deny k a c reason q.carried) :
    s.refuses a c (s.denial k (some a) c reason q.carried) fun t => t.tells a (.deny reason) := by
  refine State.refuses_of_deny hloop hstate hrepeats hassignment ?_
  rw [State.entryPresentation_of_qualifies (q := q) (by simpa using h1) (by simpa using h2) (by simpa using h3)]
  simpa using h

theorem State.refuses_of_stage4 (h4 : s.stage4 k c q.permit.role = .denied reason) :
    s.refuses a c (s.denial k (some a) c reason q.carried) fun t => t.tells a (.deny reason) :=
  State.refuses_of_decideRoom hloop hstate hrepeats hassignment h1 h2 h3
    (State.decideRoom_of_denied (x := ⟨k, a, c, q, s.clock⟩) (by simpa using h4))

variable (honline : ¬s.needsHeadEnd (s.roomOf k) q.permit.role = true) (henter : s.mayEnter k c)
include honline henter

/-- A lone grant is denied where the list of the closed door has no place (R61). -/
theorem State.refuses_of_busy_door (halone : s.grantsAlone (s.roomOf k))
    (hclosed : (s.door k).state = .secure ∨ (s.door k).state = .released) (hfull : 8 ≤ (s.door k).provisional.length) :
    s.refuses a c (s.denial k (some a) c .doorBusy q.carried) fun t => t.tells a (.deny .doorBusy) := by
  refine State.refuses_of_decideRoom hloop hstate hrepeats hassignment h1 h2 h3 ?_
  have h4 := State.stage4_of_mayEnter honline henter
  rw [State.decideRoom_of_grantsAlone (by simpa using h4) (by simpa using halone)]
  exact State.grantSingle_of_busy a c q s.clock (by simpa using hclosed)
    (by rw [State.presented_door]; exact Nat.lt_succ_of_le hfull)

/-- An arrival at a door with no record is denied where the table is full (R72). -/
theorem State.refuses_of_busy_table (hpairs : s.pairsUp (s.roomOf k)) (hnone : s.pairing k = none)
    (hfull : 8 ≤ s.openPairings) :
    s.refuses a c (s.denial k (some a) c .pairingBusy q.carried) fun t => t.tells a (.deny .pairingBusy) := by
  refine State.refuses_of_decideRoom hloop hstate hrepeats hassignment h1 h2 h3 ?_
  have h4 := State.stage4_of_mayEnter honline henter
  rw [State.decideRoom_of_pairsUp (by simpa using h4) (by simpa using hpairs)]
  exact State.arrive_of_table_full (by simpa using hnone) (by simpa using hfull)

/-- A contractor is denied where the door's record holds four others (R73). -/
theorem State.refuses_of_full_group (hpairs : s.pairsUp (s.roomOf k)) (hrole : q.permit.role = .contractor)
    {p : PairingRecord} (hp : s.pairing k = some p) (hescort : p.escort = none) (hfull : 4 ≤ p.contractors.length)
    (hnew : ∀ m ∈ p.contractors, m.credential ≠ c) :
    s.refuses a c (s.denial k (some a) c .groupFull q.carried) fun t => t.tells a (.deny .groupFull) := by
  refine State.refuses_of_decideRoom hloop hstate hrepeats hassignment h1 h2 h3 ?_
  have h4 := State.stage4_of_mayEnter honline henter
  have hmember : p.has c = false := by
    rw [PairingRecord.not_has_iff, hescort]
    exact hnew
  rw [State.decideRoom_of_pairsUp (by simpa using h4) (by simpa using hpairs),
    State.arrive_of_stranger (by simpa using hp) hmember]
  exact State.joinRecord_of_group_full hrole hescort hfull

end

/-- Settles O49: each stage's denial is read off the stage at which the presentation stops. -/
theorem presentationsAreDenied : Obligations.PresentationsAreDenied := by
  unfold Obligations.PresentationsAreDenied
  intro s a c ind ends hloop hstate hrepeats
  refine ⟨State.refuses_of_unassigned hloop hstate hrepeats, fun k hassignment => ?_⟩
  dsimp only
  have stage1 {r : Reason} (h : s.stage1 k = some r) := State.refuses_of_stage1 hloop hstate hrepeats hassignment h
  refine ⟨fun hrun => stage1 (State.stage1_of_stopped hrun), fun hrun hmode => stage1 ?_,
    fun hrun hmode => stage1 ?_, fun hrun hmode hfault => stage1 ?_, fun hrun hmode hfault => ?_⟩
  · simp [State.stage1_of_running hrun, hmode]
  · simp [State.stage1_of_running hrun, hmode]
  · simp [State.stage1_of_running hrun, hmode, hfault]
  have h1 := State.stage1_of_working hrun hmode hfault
  have stage2 {r : Reason} (h : s.stage2 c = some r) :=
    State.refuses_of_stage2 hloop hstate hrepeats hassignment h1 h
  refine ⟨fun hc hexact => stage2 ?_, fun hc hexact hfilter => stage2 ?_, fun hclear => ?_⟩
  · rw [State.stage2_eq, if_neg hc, if_pos hexact]
  · rw [State.stage2_eq, if_neg hc, if_neg hexact, if_pos hfilter]
  have h2 := State.stage2_of_clear hclear
  have search {r : Reason} {p : Option (Nat × Nat)}
      (h : s.searchPermits (s.roomOf k) s.clock (s.slotsOf c) = .fails r p) :=
    State.refuses_of_search hloop hstate hrepeats hassignment h1 h2 h
  refine ⟨fun hslots => search ?_, fun hslots hunset hdeny => search (State.searchPermits_of_unset hslots hunset hdeny),
    fun hreading before n x after hslots => ?_⟩
  · rw [State.slotsOf, hslots, State.searchPermits_nil]
  simp only [depthOf_eq_depth]
  change s.slotsOf c = _ at hslots
  rw [hslots] at search
  refine ⟨fun reason hx hbefore hafter => search (State.searchPermits_of_deepest hreading hx hbefore hafter),
    fun hx hbefore => ?_⟩
  have h3 : s.searchPermits (s.roomOf k) s.clock (s.slotsOf c) = .qualifies ⟨n, x.permit⟩ :=
    hslots ▸ State.searchPermits_of_first hreading hx hbefore
  have stage4 {r : Reason} (h : s.stage4 k c x.permit.role = .denied r) :=
    State.refuses_of_stage4 hloop hstate hrepeats hassignment h1 h2 h3 h
  refine ⟨fun hoffline => stage4 (State.stage4_of_offline (State.needsHeadEnd_iff.mpr hoffline)), fun hoffline => ?_⟩
  have honline : ¬s.needsHeadEnd (s.roomOf k) x.permit.role = true := mt State.needsHeadEnd_iff.mp hoffline
  have full {adds needed : Nat} (h : (s.room (s.roomOf k)).settings.cap < s.entryCount (s.roomOf k) + adds) :=
    State.capPassage_of_full (needed := needed) h
  refine ⟨fun e he hconfirmed hpassback => stage4 ?_, fun hout hfull => stage4 ?_,
    fun r e he hr hfull => stage4 ?_, fun hout hfull hpool => stage4 ?_,
    fun e he hprovisional hdoor hfull => stage4 ?_, fun henter => ?_⟩
  · rw [State.stage4_of_confirmed honline he hconfirmed, if_pos hpassback]
  · rw [State.stage4_of_outside honline hout]
    exact full (Nat.lt_succ_of_le hfull)
  · rw [State.stage4_of_elsewhere honline he hr]
    exact full (Nat.lt_succ_of_le hfull)
  · rw [State.stage4_of_outside honline hout]
    exact State.capPassage_of_drained (fun h => hfull (Nat.le_of_lt_succ h))
      (by unfold State.freeCount Config.poolSize; omega)
  · rw [State.stage4_of_provisional honline he hprovisional, if_neg hdoor]
    exact full hfull
  · exact ⟨State.refuses_of_busy_door hloop hstate hrepeats hassignment h1 h2 h3 honline henter,
      State.refuses_of_busy_table hloop hstate hrepeats hassignment h1 h2 h3 honline henter,
      fun hpairs hrole p => State.refuses_of_full_group hloop hstate hrepeats hassignment h1 h2 h3 honline henter
        hpairs hrole⟩

end Sys2Proof.Machine

/-! # Leaving and entering pairing records (R69 to R75)

In a well-formed pairing table no credential waits twice (R71). So the record that `State.membership` finds for a
credential is the only one that it leaves, and its PAIRING_ABANDONED record is the only one. -/

namespace Sys2Proof.Machine

/-! ## Lists in which a key stands once -/

/-- A value that stands once in the lists of all sixteen numbers stands in the list of one. -/
theorem eq_of_mem_of_nodup_sixteen {β : Type} {f : Fin 16 → List β} (h : (sixteen.flatMap f).Nodup) {i j : Fin 16}
    {b : β} (hi : b ∈ f i) (hj : b ∈ f j) : i = j := by
  by_contra hne
  have symm : Std.Symm (Function.onFun List.Disjoint f) := ⟨fun _ _ hd => hd.symm⟩
  exact (List.nodup_flatMap.mp h).2.forall (mem_sixteen i) (mem_sixteen j) hne hi hj

/-- The lists of all sixteen numbers, joined, where one alone is not empty. -/
theorem flatMap_sixteen_eq {β : Type} {f : Fin 16 → List β} (k : Fin 16) (h : ∀ j, j ≠ k → f j = []) :
    sixteen.flatMap f = f k := by
  have hgone : ∀ l : List (Fin 16), k ∉ l → l.flatMap f = [] := fun l hk =>
    List.flatMap_eq_nil_iff.mpr fun j hj => h j fun hjk => hk (hjk ▸ hj)
  obtain ⟨before, after, hsplit⟩ := List.append_of_mem (mem_sixteen k)
  have hnodup := nodup_sixteen
  rw [hsplit, List.nodup_middle, List.nodup_cons, List.mem_append, not_or] at hnodup
  rw [hsplit, List.flatMap_append, List.flatMap_cons, hgone _ hnodup.1.1, hgone _ hnodup.1.2, List.nil_append,
    List.append_nil]

/-- The elements of one key, in a list whose keys are all different. -/
theorem filter_key_eq_singleton {α κ : Type} [DecidableEq κ] {key : α → κ} {l : List α} {a : α}
    (h : (l.map key).Nodup) (ha : a ∈ l) : l.filter (fun b => key b = key a) = [a] := by
  induction l with
  | nil => simp at ha
  | cons b l ih =>
    rw [List.map_cons, List.nodup_cons] at h
    obtain ⟨hb, hl⟩ := h
    rcases List.mem_cons.mp ha with rfl | ha
    · have hrest : l.filter (fun b => key b = key a) = [] :=
        List.filter_eq_nil_iff.mpr fun x hx hkey => hb (by
          rw [← of_decide_eq_true hkey]
          exact List.mem_map_of_mem hx)
      simp [hrest]
    · have hne : key b ≠ key a := fun hkey => hb (hkey ▸ List.mem_map_of_mem ha)
      simp [hne, ih hl ha]

/-! ## Records without a credential (R71) -/

theorem PairingRecord.without_eq (p : PairingRecord) (c : Credential) :
    p.without c =
      if p.escort.filter (fun m => m.credential ≠ c) = none ∧ p.contractors.filter (fun m => m.credential ≠ c) = []
      then none
      else some { p with
        escort := p.escort.filter fun m => m.credential ≠ c
        contractors := p.contractors.filter fun m => m.credential ≠ c } := by
  simp [PairingRecord.without, PairingRecord.members, bne, beq_eq_decide]

/-- The statements' term and the record's own operation agree (R71). -/
theorem State.pairingWithout_eq (s : State) (c : Credential) (k : DoorNo) :
    s.pairingWithout c k = (s.pairing k).bind fun p => p.without c := by
  simp [State.pairingWithout, funext fun p => PairingRecord.without_eq p c]

theorem PairingRecord.members_ne_nil {p : PairingRecord} (h : p.wf) : p.members ≠ [] := by
  unfold PairingRecord.wf at h
  unfold PairingRecord.members
  cases he : p.escort with
  | some m => simp
  | none =>
    rw [he] at h
    simpa using h.1

/-- A record that a credential is no member of stays as it is. -/
theorem PairingRecord.without_of_not_member {p : PairingRecord} {c : Credential} (hwf : p.wf)
    (h : ∀ m ∈ p.members, m.credential ≠ c) : p.without c = some p := by
  obtain ⟨escort, contractors, opened, deadline⟩ := p
  have hescort : escort.filter (fun m => m.credential != c) = escort := by
    cases escort with
    | none => rfl
    | some m => simp [h m (by simp [PairingRecord.members])]
  have hcontractors : contractors.filter (fun m => m.credential != c) = contractors :=
    List.filter_eq_self.mpr fun m hm => by simp [h m (by simp [PairingRecord.members, hm])]
  have hmembers := PairingRecord.members_ne_nil hwf
  simp only [PairingRecord.without, hescort, hcontractors]
  rw [if_neg (by simpa using hmembers)]

/-! ## The record that a credential waits in (R71) -/

/-- The members of a door's record, none where no record is open. -/
def State.membersAt (s : State) (k : DoorNo) : List Member := (s.pairing k).toList.flatMap PairingRecord.members

theorem State.waiting_eq (s : State) : s.waiting = sixteen.flatMap fun k => (s.membersAt k).map Member.credential := rfl

theorem State.membersAt_of_pairing {s : State} {k : DoorNo} {p : PairingRecord} (h : s.pairing k = some p) :
    s.membersAt k = p.members := by
  simp [State.membersAt, h]

theorem State.membersAt_of_none {s : State} {k : DoorNo} (h : s.pairing k = none) : s.membersAt k = [] := by
  simp [State.membersAt, h]

/-- The PAIRING_ABANDONED record of a member of a door's record (R71, R74). -/
def State.abandonedReport (s : State) (k : DoorNo) (m : Member) : Report :=
  { kind := .pairingAbandoned, door := some k, room := some (s.roomOf k), credential := some m.credential
    slot := some m.slot, workOrder := some m.workOrder }

theorem State.abandonedReports_eq (s : State) (c : Credential) :
    s.abandonedReports c = sixteen.flatMap fun k =>
      ((s.membersAt k).filter fun m => m.credential = c).map (s.abandonedReport k) := by
  unfold State.abandonedReports
  refine List.flatMap_congr fun k _ => ?_
  cases hk : s.pairing k with
  | none => simp [State.membersAt_of_none hk]
  | some p =>
    rw [State.membersAt_of_pairing hk]
    simp only [Option.toList_some, List.flatMap_singleton]
    refine List.map_congr_left fun m hm => ?_
    have hc : m.credential = c := of_decide_eq_true (List.mem_filter.mp hm).2
    simp [State.abandonedReport, hc]

theorem State.membership_eq_none_iff {s : State} {c : Credential} :
    s.membership c = none ↔ ∀ k, ∀ m ∈ s.membersAt k, m.credential ≠ c := by
  unfold State.membership
  rw [List.findSome?_eq_none_iff]
  refine ⟨fun h k m hm => ?_, fun h k _ => ?_⟩
  · have hk := h k (mem_sixteen k)
    cases hp : s.pairing k with
    | none => simp [State.membersAt_of_none hp] at hm
    | some p =>
      rw [State.membersAt_of_pairing hp] at hm
      simp only [hp, Option.bind_some, Option.map_eq_none_iff, List.find?_eq_none, beq_iff_eq] at hk
      exact hk m hm
  · cases hp : s.pairing k with
    | none => rfl
    | some p =>
      have hk := h k
      rw [State.membersAt_of_pairing hp] at hk
      simpa using hk

/-- What is found of a credential that waits: its door's record, and the member there. -/
theorem State.of_membership {s : State} {c : Credential} {k : DoorNo} {p : PairingRecord} {m : Member}
    (h : s.membership c = some (k, p, m)) : s.pairing k = some p ∧ m ∈ p.members ∧ m.credential = c := by
  obtain ⟨j, -, hj⟩ := List.exists_of_findSome?_eq_some h
  obtain ⟨p', hp', hm⟩ := Option.bind_eq_some_iff.mp hj
  obtain ⟨m', hm', heq⟩ := Option.map_eq_some_iff.mp hm
  obtain ⟨rfl, rfl, rfl⟩ : j = k ∧ p' = p ∧ m' = m := by simpa using heq
  exact ⟨hp', List.mem_of_find?_eq_some hm', by simpa using List.find?_some hm'⟩

section
variable {s : State} {c : Credential}

/-- A credential that waits in one door's record waits in no other (R71). -/
theorem State.not_waiting_elsewhere (hnodup : s.waiting.Nodup) {k j : DoorNo} {m : Member} (hm : m ∈ s.membersAt k)
    (hj : j ≠ k) : ∀ x ∈ s.membersAt j, x.credential ≠ m.credential := fun _ hx hc =>
  hj (eq_of_mem_of_nodup_sixteen (s.waiting_eq ▸ hnodup) (List.mem_map_of_mem hx)
    (hc ▸ List.mem_map_of_mem hm))

/-- A record that the credential does not wait in is what stays of it when the credential leaves (R71). -/
theorem State.pairingWithout_of_not_waiting (hwf : s.pairingsWf) {k : DoorNo}
    (h : ∀ m ∈ s.membersAt k, m.credential ≠ c) : s.pairingWithout c k = s.pairing k := by
  obtain ⟨-, hrecords, -, -⟩ := hwf
  rw [State.pairingWithout_eq]
  cases hk : s.pairing k with
  | none => rfl
  | some p => exact PairingRecord.without_of_not_member (hrecords k p hk) (State.membersAt_of_pairing hk ▸ h)

theorem State.abandonedReports_of_not_waiting (h : ∀ k, ∀ m ∈ s.membersAt k, m.credential ≠ c) :
    s.abandonedReports c = [] := by
  rw [State.abandonedReports_eq]
  refine List.flatMap_eq_nil_iff.mpr fun k _ => ?_
  simpa [List.filter_eq_nil_iff] using h k

/-- One credential leaves with one PAIRING_ABANDONED record (R71). -/
theorem State.abandonedReports_of_member (hnodup : s.waiting.Nodup) {k : DoorNo} {m : Member}
    (hm : m ∈ s.membersAt k) : s.abandonedReports m.credential = [s.abandonedReport k m] := by
  rw [State.abandonedReports_eq, flatMap_sixteen_eq k]
  · have hkeys := (List.nodup_flatMap.mp (s.waiting_eq ▸ hnodup)).1 k (mem_sixteen k)
    rw [filter_key_eq_singleton hkeys hm, List.map_singleton]
  · intro j hj
    simpa [List.filter_eq_nil_iff] using State.not_waiting_elsewhere hnodup hm hj

/-- Everything that withdrawing a credential can do: pairing records and queued records, and nothing else. -/
theorem State.withdrawMember_form (s : State) (c : Credential) :
    ∃ pairings q n l,
      s.withdrawMember c = { s with pairings := pairings, queue := q, nextSequence := n, lost := l } := by
  unfold State.withdrawMember
  split
  · exact ⟨s.pairings, s.queue, s.nextSequence, s.lost, rfl⟩
  next k p m _ =>
    obtain ⟨q, n, l, h⟩ := State.submit_form (s.setPairing k (p.without c))
      { kind := .pairingAbandoned, door := some k, room := some (s.roomOf k), credential := some c
        slot := some m.slot, workOrder := some m.workOrder }
    exact ⟨_, q, n, l, h⟩

/-- A credential leaves the record it waits in, and no other changes (R71). -/
theorem State.pairing_withdrawMember (hwf : s.pairingsWf) (c : Credential) (j : DoorNo) :
    (s.withdrawMember c).pairing j = s.pairingWithout c j := by
  obtain ⟨-, -, hnodup, -⟩ := id hwf
  cases h : s.membership c with
  | none =>
    rw [State.pairingWithout_of_not_waiting hwf (State.membership_eq_none_iff.mp h j)]
    simp [State.withdrawMember, h]
  | some found =>
    obtain ⟨k, p, m⟩ := found
    obtain ⟨hp, hm, rfl⟩ := State.of_membership h
    simp only [State.withdrawMember, h, State.submit_pairing, State.pairing_setPairing]
    split
    next hkj => rw [← hkj, State.pairingWithout_eq, hp, Option.bind_some]
    next hkj =>
      exact (State.pairingWithout_of_not_waiting hwf (State.not_waiting_elsewhere hnodup
        (State.membersAt_of_pairing hp ▸ hm) (Ne.symm hkj))).symm

/-- A credential leaves with its PAIRING_ABANDONED record, if it waits (R71). -/
theorem State.desk_withdrawMember (hwf : s.pairingsWf) (c : Credential) :
    (s.withdrawMember c).desk = s.desk.submitAll (s.abandonedReports c) := by
  obtain ⟨-, -, hnodup, -⟩ := hwf
  cases h : s.membership c with
  | none =>
    rw [State.abandonedReports_of_not_waiting (State.membership_eq_none_iff.mp h)]
    simp [State.withdrawMember, h, Desk.submitAll_nil]
  | some found =>
    obtain ⟨k, p, m⟩ := found
    obtain ⟨hp, hm, rfl⟩ := State.of_membership h
    rw [State.abandonedReports_of_member hnodup (State.membersAt_of_pairing hp ▸ hm)]
    simp [State.withdrawMember, h, Desk.submitAll_singleton, State.abandonedReport]

end

section
variable (s : State) (c : Credential)

@[simp] theorem State.withdrawMember_permits : (s.withdrawMember c).permits = s.permits := by
  obtain ⟨_, _, _, _, h⟩ := s.withdrawMember_form c; rw [h]
@[simp] theorem State.withdrawMember_schedules : (s.withdrawMember c).schedules = s.schedules := by
  obtain ⟨_, _, _, _, h⟩ := s.withdrawMember_form c; rw [h]
@[simp] theorem State.withdrawMember_rooms : (s.withdrawMember c).rooms = s.rooms := by
  obtain ⟨_, _, _, _, h⟩ := s.withdrawMember_form c; rw [h]
@[simp] theorem State.withdrawMember_doors : (s.withdrawMember c).doors = s.doors := by
  obtain ⟨_, _, _, _, h⟩ := s.withdrawMember_form c; rw [h]
@[simp] theorem State.withdrawMember_readers : (s.withdrawMember c).readers = s.readers := by
  obtain ⟨_, _, _, _, h⟩ := s.withdrawMember_form c; rw [h]

end

/-! ## Entering a record (R69 to R74) -/

/-- The ENTRY_PENDING record of an arrival, with the number of members (R69). -/
def State.pendingReport (s : State) (x : Arrival) (members : Nat) : Report :=
  { kind := .entryPending, door := some x.door, room := some (s.roomOf x.door), reader := some x.reader
    credential := some x.credential, slot := some x.permit.slot, workOrder := some x.permit.permit.workOrder
    detail := some members }

theorem State.wait_eq (s : State) (x : Arrival) (members : Nat) :
    s.wait x members = (s.submit (s.pendingReport x members)).post x.reader .wait := rfl

/-- The state in which an arrival that enters a record waits: the record stands at the door, and the records of R71
and R74 are queued. -/
def State.entered (s : State) (x : Arrival) (p : PairingRecord) (displaced : Option Member) : State :=
  ((s.withdrawMember x.credential).setPairing x.door (some p)).submitAll
    (displaced.toList.map (s.abandonedReport x.door))

theorem State.roomOf_congr {s t : State} (h : t.doors = s.doors) (k : DoorNo) : t.roomOf k = s.roomOf k := by
  rw [State.roomOf, State.roomOf, State.door, State.door, h]

theorem State.enterRecord_eq (s : State) (x : Arrival) (p : PairingRecord) (displaced : Option Member) :
    s.enterRecord x p displaced = (s.entered x p displaced).wait x p.members.length := by
  cases displaced <;> rfl

section
variable (s : State) (x : Arrival) (p : PairingRecord) (displaced : Option Member)

@[simp] theorem State.entered_permits : (s.entered x p displaced).permits = s.permits := by simp [State.entered]
@[simp] theorem State.entered_rooms : (s.entered x p displaced).rooms = s.rooms := by simp [State.entered]
@[simp] theorem State.entered_doors : (s.entered x p displaced).doors = s.doors := by simp [State.entered]
@[simp] theorem State.entered_readers : (s.entered x p displaced).readers = s.readers := by simp [State.entered]

theorem State.pairing_entered (hwf : s.pairingsWf) (j : DoorNo) :
    (s.entered x p displaced).pairing j = if j = x.door then some p else s.pairingWithout x.credential j := by
  simp only [State.entered, State.submitAll_pairing, State.pairing_setPairing, State.pairing_withdrawMember hwf,
    eq_comm (a := j)]

theorem State.desk_entered (hwf : s.pairingsWf) :
    (s.entered x p displaced).desk = s.desk.submitAll
      (s.abandonedReports x.credential ++ displaced.toList.map (s.abandonedReport x.door)) := by
  simp [State.entered, State.desk_withdrawMember hwf, Desk.submitAll_append]

end

end Sys2Proof.Machine

/-! # Arrivals that wait (O52) -/

namespace Sys2Proof.Machine

/-! ## What an arrival at the pairing table comes to (R72 to R75) -/

section
variable {s : State} {x : Arrival}

/-- An arrival at a door with no record opens one of its role, where the table has a place (R72). -/
theorem State.arrive_of_no_record (hnone : s.pairing x.door = none) (hroom : s.openPairings < 8) :
    s.arrive x = s.enterRecord x
      ⟨if x.permit.permit.role = .escort then some x.member else none,
        if x.permit.permit.role = .contractor then [x.member] else [], s.now,
        s.now + s.params.pairingWindow * 1000⟩ none := by
  have hroom : ¬Config.pairingCapacity ≤ s.openPairings := Nat.not_le.mpr hroom
  simp only [State.arrive, hnone, State.openRecord, hroom, if_false]
  cases x.permit.permit.role <;> rfl

/-- A contractor joins a contractor record that has a place (R73). -/
theorem State.joinRecord_of_contractor {p : PairingRecord} (hrole : x.permit.permit.role = .contractor)
    (hescort : p.escort = none) (hplace : p.contractors.length < 4) :
    s.joinRecord x p = s.enterRecord x { p with contractors := p.contractors ++ [x.member] } none := by
  have hplace : p.contractors.length < Config.groupContractors := hplace
  simp [State.joinRecord, hrole, hescort, hplace]

/-- An escort replaces the escort that waits (R74). -/
theorem State.joinRecord_of_escort {p : PairingRecord} {e : Member} (hrole : x.permit.permit.role = .escort)
    (hescort : p.escort = some e) :
    s.joinRecord x p = s.enterRecord x ⟨some x.member, [], s.now, s.now + s.params.pairingWindow * 1000⟩ (some e) := by
  simp only [State.joinRecord, hrole, hescort]
  rfl

/-- A member that presents again waits again (R75). -/
theorem State.arrive_of_member {p : PairingRecord} (hp : s.pairing x.door = some p) (h : p.has x.credential = true) :
    s.arrive x = s.wait x p.members.length := by
  simp [State.arrive, hp, h]

end

/-! ## What the pairing table holds once the presentation is noted -/

section
variable (s : State) (a : ReaderNo) (c : Credential)

@[simp] theorem State.presented_pairingsWf : (s.presented a c).pairingsWf = s.pairingsWf :=
  Aside.presented (f := State.pairingsWf) (fun _ _ _ _ _ => rfl) s a c
@[simp] theorem State.presented_pairingWithout (b : Credential) (k : DoorNo) :
    (s.presented a c).pairingWithout b k = s.pairingWithout b k :=
  Aside.presented (f := (·.pairingWithout b k)) (fun _ _ _ _ _ => rfl) s a c
@[simp] theorem State.presented_abandonedReports (b : Credential) :
    (s.presented a c).abandonedReports b = s.abandonedReports b :=
  Aside.presented (f := (·.abandonedReports b)) (fun _ _ _ _ _ => rfl) s a c
@[simp] theorem State.presented_abandonedReport (k : DoorNo) (m : Member) :
    (s.presented a c).abandonedReport k m = s.abandonedReport k m :=
  Aside.presented (f := (·.abandonedReport k m)) (fun _ _ _ _ _ => rfl) s a c

end

theorem State.pendingReport_congr {s t : State} (h : t.doors = s.doors) (x : Arrival) (members : Nat) :
    t.pendingReport x members = s.pendingReport x members := by
  simp [State.pendingReport, State.roomOf_congr h]

theorem State.pairing_congr {s t : State} (h : t.pairings = s.pairings) (k : DoorNo) : t.pairing k = s.pairing k := by
  rw [State.pairing, State.pairing, h]

theorem State.reader_congr {s t : State} (h : t.readers = s.readers) (a : ReaderNo) : t.reader a = s.reader a := by
  rw [State.reader, State.reader, h]

theorem State.door_congr {s t : State} (h : t.doors = s.doors) (k : DoorNo) : t.door k = s.door k := by
  rw [State.door, State.door, h]

/-! ## Waiting -/

/-- A presentation of an arrival that waits: the reader is told WAIT, the door's record is the one given and the
credential has left every other, and the records given and ENTRY_PENDING are queued (R69, R71). -/
def State.waits (s : State) (x : Arrival) (left : List Report) (members : Nat) (record : PairingRecord) : Prop :=
  ∃ t : State, exec (.replyReceived (replyFrame x.reader (s.reader x.reader).tamper (some x.credential))) s = .next t ∧
    t.tells x.reader .wait ∧
    (∀ j, t.pairing j = if j = x.door then some record else s.pairingWithout x.credential j) ∧
    t.queue = (s.submitAll (left ++ [s.pendingReport x members])).queue ∧
    t.rooms = s.rooms ∧ t.permits = s.permits ∧ t.doors = s.doors

section
variable {s : State} {a : ReaderNo} {k : DoorNo} {c : Credential} {q : Qualifying}
  (hqualifies : s.qualifiesAt a k c q) (henter : s.mayEnter k c) (hpairs : s.pairsUp (s.roomOf k))
include hqualifies henter hpairs

/-- The presentation is handed to the pairing table (R60). -/
theorem State.present_of_pairsUp :
    (s.presented a c).present a c = (s.presented a c).arrive ⟨k, a, c, q, s.clock⟩ := by
  obtain ⟨-, hassignment, -, -, h1, h2, h3, honline⟩ := hqualifies
  have h4 := State.stage4_of_mayEnter (role := q.permit.role) (Bool.not_eq_true _ ▸ honline) henter
  rw [State.present_of_qualifiesAt hassignment h1 h2 h3]
  exact State.decideRoom_of_pairsUp (by simpa using h4) (by simpa using hpairs)

/-- An arrival waits where the table, in a state `v` that differs in records alone, answers WAIT. -/
theorem State.waits_of_arrive {v : State} {left : List Report} {members : Nat} {record : PairingRecord}
    (h : (s.presented a c).arrive ⟨k, a, c, q, s.clock⟩ = v.wait ⟨k, a, c, q, s.clock⟩ members)
    (hreaders : v.readers = (s.presented a c).readers) (hdoors : v.doors = s.doors) (hrooms : v.rooms = s.rooms)
    (hpermits : v.permits = s.permits) (hdesk : v.desk = s.desk.submitAll left)
    (hpairings : ∀ j, v.pairing j = if j = k then some record else s.pairingWithout c j) :
    s.waits ⟨k, a, c, q, s.clock⟩ left members record := by
  have hpresent := State.present_of_pairsUp hqualifies henter hpairs
  obtain ⟨⟨ind, ends, hloop⟩, hassignment, hrepeats, -⟩ := hqualifies
  refine ⟨_, exec_replyReceived_presentation hloop hrepeats, ?_⟩
  rw [hpresent, h, State.wait_eq, State.pendingReport_congr hdoors]
  refine ⟨State.post_advanceLoop_tells (x := (k, .entry)) ?_ ?_ _, fun j => ?_, State.queue_eq_of_desk_eq ?_, ?_, ?_, ?_⟩
  · rw [State.assignment_congr (s := s) (fun j => by rw [State.submit_door, State.door_congr hdoors]), hassignment]
  · rw [State.submit_reader, State.reader_congr hreaders, State.presented_reader]
    nofun
  · rw [← hpairings]
    exact State.pairing_congr (by simp) j
  · simp [hdesk, Desk.submitAll_append, Desk.submitAll_singleton]
  · simpa using hrooms
  · simpa using hpermits
  · simpa using hdoors

variable (hwf : s.pairingsWf)
include hwf

/-- An arrival that enters a record waits, with the records of R71 and R74. -/
theorem State.waits_of_enterRecord {p : PairingRecord} {displaced : Option Member}
    (h : (s.presented a c).arrive ⟨k, a, c, q, s.clock⟩ =
      (s.presented a c).enterRecord ⟨k, a, c, q, s.clock⟩ p displaced) :
    s.waits ⟨k, a, c, q, s.clock⟩ (s.abandonedReports c ++ displaced.toList.map (s.abandonedReport k))
      p.members.length p := by
  have hstate := hqualifies.2.2.2.1
  have hwf : (s.presented a c).pairingsWf := by simpa using hwf
  refine State.waits_of_arrive hqualifies henter hpairs (h.trans (State.enterRecord_eq _ _ _ _)) (by simp) (by simp)
    (by simp) (by simp) ?_ fun j => ?_
  · simp [State.desk_entered _ _ _ _ hwf, State.desk_presented hstate, funext ((s.presented_abandonedReport a c) k)]
  · simp [State.pairing_entered _ _ _ _ hwf]

/-- A member that presents again waits on, and the table is as it was (R75). -/
theorem State.waits_of_member {p : PairingRecord} (hp : s.pairing k = some p)
    (hmember : ∃ m ∈ p.members, m.credential = c) :
    s.waits ⟨k, a, c, q, s.clock⟩ [] p.members.length p := by
  have hstate := hqualifies.2.2.2.1
  obtain ⟨m, hm, rfl⟩ := hmember
  refine State.waits_of_arrive hqualifies henter hpairs
    (State.arrive_of_member (by simpa using hp) ((p.has_iff _).mpr ⟨m, hm, rfl⟩)) rfl (by simp) (by simp) (by simp)
    (by simp [State.desk_presented hstate, Desk.submitAll_nil]) fun j => ?_
  rw [State.presented_pairing]
  split
  next hj => rw [hj, hp]
  next hj =>
    obtain ⟨-, -, hnodup, -⟩ := id hwf
    exact (State.pairingWithout_of_not_waiting hwf (State.not_waiting_elsewhere hnodup
      (State.membersAt_of_pairing hp ▸ hm) hj)).symm

end

/-- Settles O52: an arrival leaves the one record that it waits in and enters the door's, or is a member there. -/
theorem escortedArrivalsWait : Obligations.EscortedArrivalsWait := by
  unfold Obligations.EscortedArrivalsWait
  intro s a k c q hqualifies henter hpairs hwf
  have enters {p : PairingRecord} {displaced : Option Member} :=
    State.waits_of_enterRecord (p := p) (displaced := displaced) hqualifies henter hpairs hwf
  refine ⟨fun hnone hopen => ?_, fun p hp => ⟨fun hnew => ?_, fun hmember => ?_⟩⟩
  · have h := enters (State.arrive_of_no_record (by simpa using hnone) (by simpa using hopen))
    change s.waits ⟨k, a, c, q, s.clock⟩ (s.abandonedReports c) 1 _
    cases hrole : q.permit.role <;> simpa [hrole, PairingRecord.members, Arrival.member] using h
  · have hstranger := State.arrive_of_stranger (s := s.presented a c) (x := ⟨k, a, c, q, s.clock⟩) (p := p)
      (by simpa using hp) ((p.not_has_iff c).mpr hnew)
    refine ⟨fun hrole hescort hplace => ?_, fun hrole e hescort => ?_⟩
    · have h := enters (hstranger.trans (State.joinRecord_of_contractor hrole hescort hplace))
      change s.waits ⟨k, a, c, q, s.clock⟩ (s.abandonedReports c) (p.contractors.length + 1) _
      simpa [hescort, PairingRecord.members, Arrival.member] using h
    · have h := enters (hstranger.trans (State.joinRecord_of_escort hrole hescort))
      change s.waits ⟨k, a, c, q, s.clock⟩ (s.abandonedReports c ++ [s.abandonedReport k e]) 1 _
      simpa [PairingRecord.members, Arrival.member] using h
  · exact State.waits_of_member hqualifies henter hpairs hwf hp hmember

end Sys2Proof.Machine

/-! # What a grant does, step by step (R58, R61 to R64, R86, R96, R127) -/

namespace Sys2Proof.Machine

/-! ## Reading a state by its parts -/

section
variable {s t : State}

theorem State.room_congr (h : t.rooms = s.rooms) (q : RoomNo) : t.room q = s.room q := by
  rw [State.room, State.room, h]

theorem State.slot_congr (h : t.permits = s.permits) (n : Nat) : t.slot n = s.slot n := by
  rw [State.slot, State.slot, h]

theorem State.findEntry_congr (h : t.rooms = s.rooms) (c : Credential) : t.findEntry c = s.findEntry c := by
  simp only [State.findEntry, State.room_congr h]

theorem State.entitledUntil_congr (h : t.schedules = s.schedules) (p : PermitRecord) (reading : Clock) :
    t.entitledUntil p reading = s.entitledUntil p reading := by
  simp only [State.entitledUntil, State.schedule, h]

theorem State.roomOf_congr_settings (h : ∀ j, (t.door j).settings = (s.door j).settings) (k : DoorNo) :
    t.roomOf k = s.roomOf k := by
  rw [State.roomOf, State.roomOf, h]

theorem State.abandonedReports_congr (hp : t.pairings = s.pairings)
    (hd : ∀ j, (t.door j).settings = (s.door j).settings) (c : Credential) :
    t.abandonedReports c = s.abandonedReports c := by
  simp only [State.abandonedReports, State.pairing_congr hp, State.roomOf_congr_settings hd]

theorem State.pairingWithout_congr (h : t.pairings = s.pairings) (c : Credential) (k : DoorNo) :
    t.pairingWithout c k = s.pairingWithout c k := by
  simp only [State.pairingWithout, State.pairing_congr h]

end

/-! ## Supervision checks (R86) -/

theorem State.setRoom_self (s : State) (q : RoomNo) : s.setRoom q (s.room q) = s := by
  simp [State.setRoom, State.room]

/-- A room after its supervision check. -/
def Room.supervised (x : Room) : Room :=
  { x with supervision := if x.isUnescorted = true then .unescorted else .clear }

theorem Room.supervised_entries (x : Room) : x.supervised.entries = x.entries := rfl

theorem Room.supervised_settings (x : Room) : x.supervised.settings = x.settings := rfl

theorem State.leftAlone_congr {s t : State} {q : RoomNo} (hs : (t.room q).settings = (s.room q).settings)
    (he : (t.room q).entries = (s.room q).entries) : t.leftAlone q = s.leftAlone q := by
  rw [State.leftAlone_eq, State.leftAlone_eq, Room.isUnescorted, Room.isUnescorted, hs, he]

theorem State.confirmedIn_eq (s : State) (q : RoomNo) (role : Role) :
    s.confirmedIn q role = (s.room q).confirmedCount role := rfl

theorem State.checkReport_congr {s s' t t' : State} {q : RoomNo}
    (hsup : (s'.room q).supervision = (s.room q).supervision) (hset : (t'.room q).settings = (t.room q).settings)
    (hent : (t'.room q).entries = (t.room q).entries) : s'.checkReport t' q = s.checkReport t q := by
  simp only [State.checkReport, hsup, State.leftAlone_congr hset hent, State.confirmedIn, hent]

/-- A supervision check sets the room's state to what the room is, and queues the record of the change. -/
theorem State.supervise_eq (s : State) (q : RoomNo) :
    s.supervise q = (s.setRoom q (s.room q).supervised).submitAll (s.checkReport s q) := by
  have unchanged (h : (s.room q).supervised = s.room q) : s.setRoom q (s.room q).supervised = s := by
    rw [h, State.setRoom_self]
  have hfield (v : Supervision) (h : (s.room q).supervision = v) : { s.room q with supervision := v } = s.room q := by
    rw [← h]
  cases hs : (s.room q).supervision <;> cases hu : (s.room q).isUnescorted
  · rw [unchanged (by rw [Room.supervised, hu]; exact hfield _ hs)]
    simp [State.supervise, State.checkReport, State.leftAlone_eq, hs, hu, State.submitAll]
  · simp [State.supervise, State.checkReport, State.leftAlone_eq, hs, hu, State.submitAll, Room.supervised,
      State.confirmedIn_eq]
  · simp [State.supervise, State.checkReport, State.leftAlone_eq, hs, hu, State.submitAll, Room.supervised,
      State.confirmedIn_eq]
  · rw [unchanged (by rw [Room.supervised, hu]; exact hfield _ hs)]
    simp [State.supervise, State.checkReport, State.leftAlone_eq, hs, hu, State.submitAll]

theorem State.room_supervise (s : State) (q p : RoomNo) :
    (s.supervise q).room p = if q = p then (s.room q).supervised else s.room p := by
  rw [State.supervise_eq, State.submitAll_room, State.room_setRoom]

/-- The checks of several rooms leave every room's entries and settings. -/
theorem State.room_superviseAll (l : List RoomNo) (s : State) (p : RoomNo) :
    ((s.superviseAll l).room p).entries = (s.room p).entries ∧
      ((s.superviseAll l).room p).settings = (s.room p).settings := by
  induction l generalizing s with
  | nil => exact ⟨rfl, rfl⟩
  | cons q l ih =>
    obtain ⟨he, hs⟩ := ih (s.supervise q)
    have hroom := s.room_supervise q p
    refine ⟨he.trans ?_, hs.trans ?_⟩ <;> rw [hroom] <;> split
    next h => rw [← h, Room.supervised_entries]
    next => rfl
    next h => rw [← h, Room.supervised_settings]
    next => rfl

/-- The checks of several rooms queue the record of each, in order. -/
theorem State.desk_superviseAll {l : List RoomNo} (hl : l.Nodup) (s : State) :
    (s.superviseAll l).desk = s.desk.submitAll (l.flatMap (s.checkReport s)) := by
  induction l generalizing s with
  | nil => rfl
  | cons q l ih =>
    obtain ⟨hq, hl⟩ := List.nodup_cons.mp hl
    have hreports : l.flatMap ((s.supervise q).checkReport (s.supervise q)) = l.flatMap (s.checkReport s) :=
      List.flatMap_congr fun p hp => by
        have hroom : (s.supervise q).room p = s.room p := by
          rw [State.room_supervise, if_neg fun h : q = p => hq (h ▸ hp)]
        exact State.checkReport_congr (by rw [hroom]) (by rw [hroom]) (by rw [hroom])
    calc ((s.supervise q).superviseAll l).desk
        = (s.supervise q).desk.submitAll (l.flatMap (s.checkReport s)) := by rw [ih hl, hreports]
      _ = s.desk.submitAll ((q :: l).flatMap (s.checkReport s)) := by
        rw [State.supervise_eq, State.desk_submitAll, State.desk_setRoom, List.flatMap_cons, Desk.submitAll_append]

/-- Everything that supervision checks can do: rooms and records, and nothing else. -/
theorem State.superviseAll_form (l : List RoomNo) (s : State) :
    ∃ rooms q n j, s.superviseAll l = { s with rooms := rooms, queue := q, nextSequence := n, lost := j } := by
  induction l generalizing s with
  | nil => exact ⟨s.rooms, s.queue, s.nextSequence, s.lost, rfl⟩
  | cons r l ih =>
    obtain ⟨q, n, j, h⟩ := State.submitAll_form (s.checkReport s r) (s.setRoom r (s.room r).supervised)
    obtain ⟨rooms, q', n', j', hrest⟩ := ih (s.supervise r)
    exact ⟨rooms, q', n', j', hrest.trans (by rw [State.supervise_eq, h]; rfl)⟩

section
variable (s : State) (l : List RoomNo)

@[simp] theorem State.superviseAll_permits : (s.superviseAll l).permits = s.permits := by
  obtain ⟨_, _, _, _, h⟩ := State.superviseAll_form l s; rw [h]
@[simp] theorem State.superviseAll_doors : (s.superviseAll l).doors = s.doors := by
  obtain ⟨_, _, _, _, h⟩ := State.superviseAll_form l s; rw [h]
@[simp] theorem State.superviseAll_pairings : (s.superviseAll l).pairings = s.pairings := by
  obtain ⟨_, _, _, _, h⟩ := State.superviseAll_form l s; rw [h]
@[simp] theorem State.superviseAll_readers : (s.superviseAll l).readers = s.readers := by
  obtain ⟨_, _, _, _, h⟩ := State.superviseAll_form l s; rw [h]

end

/-! ## Entries and their credentials (R92, R94) -/

/-- What is found of a credential: a room, and an entry of the credential there. -/
theorem State.of_findEntry {s : State} {c : Credential} {r : RoomNo} {e : Entry} (h : s.findEntry c = some (r, e)) :
    e ∈ (s.room r).entries ∧ e.credential = c := by
  obtain ⟨r', -, hr'⟩ := List.exists_of_findSome?_eq_some h
  obtain ⟨e', he', heq⟩ := Option.map_eq_some_iff.mp hr'
  obtain ⟨rfl, rfl⟩ : r' = r ∧ e' = e := by simpa using heq
  exact ⟨List.mem_of_find?_eq_some he', by simpa using List.find?_some he'⟩

theorem State.mem_allEntries {s : State} {r : RoomNo} {e : Entry} (h : e ∈ (s.room r).entries) : e ∈ s.allEntries :=
  List.mem_flatMap.mpr ⟨r, mem_sixteen r, h⟩

section
variable {s : State} (hwf : s.occupancyWf) {r : RoomNo} {e : Entry} (he : e ∈ (s.room r).entries)
include hwf he

/-- A credential that holds an entry in one room holds none in another (R92). -/
theorem State.not_inside_elsewhere {p : RoomNo} (hp : p ≠ r) :
    ∀ y ∈ (s.room p).entries, y.credential ≠ e.credential := fun _ hy hc => by
  obtain ⟨-, hnodup⟩ := hwf
  rw [State.allEntries, List.map_flatMap] at hnodup
  exact hp (eq_of_mem_of_nodup_sixteen hnodup (List.mem_map_of_mem hy) (hc ▸ List.mem_map_of_mem he))

/-- A credential's entry is the only one of the credential (R92). -/
theorem State.entry_unique {y : Entry} (hy : y ∈ s.allEntries) (hc : y.credential = e.credential) : y = e :=
  List.inj_on_of_nodup_map hwf.2 hy (State.mem_allEntries he) hc

/-- Only the list of its entry door names a credential inside, and only while its entry is PROVISIONAL (R94, R136). -/
theorem State.mem_provisional_iff (href : s.referencesWf) (j : DoorNo) :
    e.credential ∈ (s.door j).provisional ↔ e.state = .provisional ∧ e.door = j := by
  rw [(href j).2]
  refine ⟨fun ⟨y, hy, hc, hstate, hdoor⟩ => ?_, fun ⟨hstate, hdoor⟩ =>
    ⟨e, State.mem_allEntries he, rfl, hstate, hdoor⟩⟩
  rw [State.entry_unique hwf he hy hc] at hstate hdoor
  exact ⟨hstate, hdoor⟩

end

/-! ## Removing an entry (R96) -/

section
variable (s : State) (r : RoomNo) (e : Entry)

theorem State.room_dropEntry (p : RoomNo) :
    (s.dropEntry r e).room p =
      if r = p then { s.room r with entries := (s.room r).entries.filter fun y => y.credential ≠ e.credential }
      else s.room p := by
  have hroom := s.room_modifyRoom r p fun x =>
    { x with entries := x.entries.filter fun y => y.credential ≠ e.credential }
  unfold State.dropEntry
  cases e.state <;> exact hroom

theorem State.door_dropEntry (j : DoorNo) :
    (s.dropEntry r e).door j =
      { s.door j with
        provisional := if e.state = .provisional ∧ e.door = j then (s.door j).provisional.filter (· ≠ e.credential)
          else (s.door j).provisional } := by
  unfold State.dropEntry
  cases e.state with
  | confirmed => simp [State.door, State.modifyRoom]
  | provisional =>
    simp only [State.withdrawReference, State.door_modifyDoor, true_and]
    split
    next h => subst h; rfl
    next => rfl

/-- Everything that removing an entry can do: rooms and doors, and nothing else. -/
theorem State.dropEntry_form :
    ∃ rooms doors, s.dropEntry r e = { s with rooms := rooms, doors := doors } := by
  unfold State.dropEntry
  cases e.state <;> exact ⟨_, _, rfl⟩

@[simp] theorem State.dropEntry_permits : (s.dropEntry r e).permits = s.permits := by
  obtain ⟨_, _, h⟩ := s.dropEntry_form r e; rw [h]
@[simp] theorem State.dropEntry_schedules : (s.dropEntry r e).schedules = s.schedules := by
  obtain ⟨_, _, h⟩ := s.dropEntry_form r e; rw [h]
@[simp] theorem State.dropEntry_pairings : (s.dropEntry r e).pairings = s.pairings := by
  obtain ⟨_, _, h⟩ := s.dropEntry_form r e; rw [h]
@[simp] theorem State.dropEntry_readers : (s.dropEntry r e).readers = s.readers := by
  obtain ⟨_, _, h⟩ := s.dropEntry_form r e; rw [h]
@[simp] theorem State.desk_dropEntry : (s.dropEntry r e).desk = s.desk := by
  obtain ⟨_, _, h⟩ := s.dropEntry_form r e; rw [h]; rfl

end

section
variable {s : State} (hwf : s.occupancyWf) {r : RoomNo} {e : Entry} (he : e ∈ (s.room r).entries)
include hwf he

/-- The credential of a removed entry is in no room's list afterwards, and nothing else is missing (R92, R96). -/
theorem State.entries_dropEntry (p : RoomNo) :
    ((s.dropEntry r e).room p).entries = (s.room p).entries.filter fun y => y.credential ≠ e.credential := by
  rw [State.room_dropEntry]
  split
  next h => rw [← h]
  next h =>
    exact (List.filter_eq_self.mpr fun y hy =>
      decide_eq_true (State.not_inside_elsewhere hwf he (Ne.symm h) y hy)).symm

/-- The credential of a removed entry is in no door's list afterwards, and nothing else is missing (R96, R136). -/
theorem State.door_dropEntry_of_wf (href : s.referencesWf) (j : DoorNo) :
    (s.dropEntry r e).door j =
      { s.door j with provisional := (s.door j).provisional.filter (· ≠ e.credential) } := by
  rw [State.door_dropEntry]
  split
  next => rfl
  next h =>
    have hgone : (s.door j).provisional.filter (· ≠ e.credential) = (s.door j).provisional :=
      List.filter_eq_self.mpr fun c hc => decide_eq_true fun heq =>
        h ((State.mem_provisional_iff hwf he href j).mp (heq ▸ hc))
    rw [hgone]

end

/-- The kind of record that a grant at a door gives the entry it removes from a room (R62). -/
def State.departureKind (s : State) (k : DoorNo) (r : RoomNo) : RecordKind :=
  if r = s.roomOf k then .notEntered else .impliedExit

/-- The count of a removed entry is handed back where the entry is PROVISIONAL (R7, R96). -/
def State.handBack (s : State) (e : Entry) : State :=
  if e.state = .provisional then s.returnCount e.slot e.credential e.workOrder else s

/-- Everything that handing a count back can do: permit counts, and nothing else. -/
theorem State.handBack_eq (s : State) (e : Entry) :
    s.handBack e = { s with permits := (s.handBack e).permits } := by
  unfold State.handBack
  split <;> rfl

theorem State.handBack_permits (s : State) (e : Entry) :
    (s.handBack e).permits =
      if e.state = .provisional then changeSlot e.slot (PermitSlot.returned e.credential e.workOrder) s.permits
      else s.permits := by
  unfold State.handBack
  split <;> rfl

/-- The entry that a grant does not keep goes with its record, and its count is handed back (R7, R62, R96). -/
theorem State.removeOldEntry_eq {s : State} {k : DoorNo} {r : RoomNo} {e : Entry}
    (h : r = s.roomOf k → e.state = .provisional) :
    s.removeOldEntry k r e = ((s.dropEntry r e).submit (removalReport (s.departureKind k r) r e)).handBack e := by
  unfold State.removeOldEntry State.departureKind State.handBack
  by_cases hr : r = s.roomOf k
  · simp [hr, h hr, State.notEntered, State.removeEntry]
  · cases e.state <;> simp [hr, State.removeEntry]

section
variable (s : State) (e : Entry)

@[simp] theorem State.handBack_schedules : (s.handBack e).schedules = s.schedules := by rw [s.handBack_eq e]
@[simp] theorem State.handBack_rooms : (s.handBack e).rooms = s.rooms := by rw [s.handBack_eq e]
@[simp] theorem State.handBack_doors : (s.handBack e).doors = s.doors := by rw [s.handBack_eq e]
@[simp] theorem State.handBack_pairings : (s.handBack e).pairings = s.pairings := by rw [s.handBack_eq e]
@[simp] theorem State.handBack_readers : (s.handBack e).readers = s.readers := by rw [s.handBack_eq e]
@[simp] theorem State.desk_handBack : (s.handBack e).desk = s.desk := by rw [s.handBack_eq e]; rfl

end

/-! ## Placing an entry (R62, R93, R136) -/

section
variable (s : State) (k : DoorNo) (c : Credential) (q : Qualifying) (reading : Clock) (atOnce : Bool)

theorem State.room_placeGranted (p : RoomNo) :
    (s.placeGranted k c q reading atOnce).room p =
      { s.room p with
        entries := (s.room p).entries ++ if p = s.roomOf k then [s.newEntry k c q reading atOnce] else [] } := by
  have hplaced : (s.placeEntry (s.roomOf k) (s.newEntry k c q reading atOnce)).room p =
      { s.room p with
        entries := (s.room p).entries ++ if p = s.roomOf k then [s.newEntry k c q reading atOnce] else [] } := by
    rw [State.placeEntry, State.room_modifyRoom]
    split
    next h => simp [h]
    next h => simp [Ne.symm h]
  cases atOnce <;> exact hplaced

theorem State.door_placeGranted (j : DoorNo) :
    (s.placeGranted k c q reading atOnce).door j =
      if j = k then
        { s.door k with provisional := (s.door k).provisional ++ if atOnce = true then [] else [c] }
      else s.door j := by
  cases atOnce with
  | true =>
    have hplaced : (s.placeGranted k c q reading true).door j = s.door j := rfl
    rw [hplaced]
    split
    next h => simp [h]
    next => rfl
  | false =>
    have hplaced : (s.placeGranted k c q reading false).door j =
        if k = j then { s.door k with provisional := (s.door k).provisional ++ [c] } else s.door j :=
      State.door_modifyDoor (s.placeEntry (s.roomOf k) (s.newEntry k c q reading false)) k j
        fun d => { d with provisional := d.provisional ++ [c] }
    simp [hplaced, eq_comm (a := j)]

/-- Everything that placing an entry can do: rooms and doors, and nothing else. -/
theorem State.placeGranted_form :
    ∃ rooms doors, s.placeGranted k c q reading atOnce = { s with rooms := rooms, doors := doors } := by
  cases atOnce <;> exact ⟨_, _, rfl⟩

@[simp] theorem State.placeGranted_permits : (s.placeGranted k c q reading atOnce).permits = s.permits := by
  obtain ⟨_, _, h⟩ := s.placeGranted_form k c q reading atOnce; rw [h]
@[simp] theorem State.placeGranted_pairings : (s.placeGranted k c q reading atOnce).pairings = s.pairings := by
  obtain ⟨_, _, h⟩ := s.placeGranted_form k c q reading atOnce; rw [h]
@[simp] theorem State.placeGranted_readers : (s.placeGranted k c q reading atOnce).readers = s.readers := by
  obtain ⟨_, _, h⟩ := s.placeGranted_form k c q reading atOnce; rw [h]
@[simp] theorem State.desk_placeGranted : (s.placeGranted k c q reading atOnce).desk = s.desk := by
  obtain ⟨_, _, h⟩ := s.placeGranted_form k c q reading atOnce; rw [h]; rfl

end

theorem State.room_changeEntry (s : State) (r : RoomNo) (c : Credential) (f : Entry → Entry) (p : RoomNo) :
    (s.changeEntry r c f).room p =
      { s.room p with
        entries := (s.room p).entries.map fun y => if p = r ∧ y.credential = c then f y else y } := by
  rw [State.changeEntry, State.room_modifyRoom]
  split
  next h => simp [h]
  next h => simp [Ne.symm h]

/-! ## One credential's grant (R62 to R64) -/

/-- The count of a grant's slot is raised, and ENTRY_GRANTED is queued (R6, R64). -/
def State.countGrant (s : State) (k : DoorNo) (a : ReaderNo) (c : Credential) (q : Qualifying)
    (entitled : Option Nat) : State :=
  (s.raiseCount q.slot).submit (s.grantReport k a c q entitled)

section
variable {s : State} {k : DoorNo} {c : Credential} (a : ReaderNo) (q : Qualifying) (reading : Clock)
  (atOnce : Bool)

theorem State.applyGrant_of_outside (h : s.findEntry c = none) :
    s.applyGrant k a c q reading atOnce =
      (s.placeGranted k c q reading atOnce).countGrant k a c q (s.entitledUntil q.permit reading) := by
  simp [State.applyGrant, State.holdsConfirmed, State.countGrant, h]

theorem State.applyGrant_of_moved {r : RoomNo} {e : Entry} (h : s.findEntry c = some (r, e))
    (hr : r = s.roomOf k → e.state = .provisional) :
    s.applyGrant k a c q reading atOnce =
      ((s.removeOldEntry k r e).placeGranted k c q reading atOnce).countGrant k a c q
        (s.entitledUntil q.permit reading) := by
  have hkeeps : s.holdsConfirmed (s.roomOf k) c = false := by
    by_cases hroom : r = s.roomOf k
    · simp [State.holdsConfirmed, h, hr hroom]
    · simp [State.holdsConfirmed, h, hroom]
  simp [State.applyGrant, State.countGrant, hkeeps, h]

theorem State.applyGrant_of_own {e : Entry} (h : s.findEntry c = some (s.roomOf k, e)) (he : e.state = .confirmed) :
    s.applyGrant k a c q reading atOnce =
      (s.changeEntry (s.roomOf k) c (Entry.regranted q (s.entitledUntil q.permit reading))).countGrant k a c q
        (s.entitledUntil q.permit reading) := by
  simp [State.applyGrant, State.holdsConfirmed, State.countGrant, h, he]

end

end Sys2Proof.Machine

/-! # Lone grants (O51) -/

namespace Sys2Proof.Machine

/-! ## The release (R61, R127) -/

/-- A door that stands open: a grant's entry is CONFIRMED at once (R61, R93). -/
abbrev DoorChannel.wide (d : DoorChannel) : Prop := d.state = .opened ∨ d.state = .held ∨ d.state = .forced

/-- A state in which a door's release has been started (R127). -/
def State.releasedAt (s : State) (k : DoorNo) : State := s.setDoor k ((s.door k).releasing s.now)

/-- A re-grant restarts the release timer where it runs (R58). -/
theorem DoorChannel.restartRelease_eq (d : DoorChannel) (now : Nat) :
    d.restartRelease now = { d with
      release := if d.release.isSome then some (now + d.settings.releaseTime * 1000) else none } := by
  obtain ⟨settings, mode, state, release, egress, allowance, provisional, sounder, lock⟩ := d
  cases release <;> rfl

theorem DoorChannel.releasing_settings (d : DoorChannel) (now : Nat) : (d.releasing now).settings = d.settings := rfl

theorem DoorChannel.releasing_provisional (d : DoorChannel) (now : Nat) :
    (d.releasing now).provisional = d.provisional := rfl

/-- The answer to a release request that is taken tells whether the door stands open. -/
theorem DoorChannel.takenOpen_iff_wide {d : DoorChannel} (hidle : d.state ≠ .idle) :
    ((if d.state = .secure ∨ d.state = .released then ReleaseAnswer.taken else .takenOpen) == .takenOpen) =
      decide d.wide := by
  rw [Bool.eq_iff_iff, beq_iff_eq, decide_eq_true_eq, DoorChannel.wide]
  cases h : d.state <;> simp_all

/-- A lone grant whose release is taken (R61 to R64, R71). -/
theorem State.grantSingle_of_taken {s : State} {k : DoorNo} {n : Nat} (a : ReaderNo) (c : Credential) (q : Qualifying)
    (reading : Clock) (hidle : (s.door k).state ≠ .idle)
    (hplace : (s.door k).state = .secure ∨ (s.door k).state = .released → (s.door k).provisional.length + n ≤ 8) :
    s.grantSingle k a c q n reading =
      ((((s.releasedAt k).withdrawMember c).applyGrant k a c q reading (decide (s.door k).wide)).post a
        .grant).superviseAll (s.roomsTouched k [c]) := by
  rw [← DoorChannel.takenOpen_iff_wide hidle]
  unfold State.grantSingle State.requestRelease
  rw [DoorChannel.requestRelease_eq _ s.now n hidle hplace]
  split
  next h =>
    split_ifs at h <;> simp at h
  next answer s1 _ h =>
    obtain ⟨rfl, rfl⟩ := Prod.mk.inj h
    rfl

theorem State.roomsTouched_of_outside {s : State} {c : Credential} (k : DoorNo) (h : s.findEntry c = none) :
    s.roomsTouched k [c] = [s.roomOf k] := by
  simp [State.roomsTouched, h]

theorem State.roomsTouched_of_found {s : State} {c : Credential} {r : RoomNo} {e : Entry} (k : DoorNo)
    (h : s.findEntry c = some (r, e)) :
    s.roomsTouched k [c] = if r = s.roomOf k then [s.roomOf k] else [r, s.roomOf k] := by
  simp only [State.roomsTouched, List.filterMap_cons, h, Option.map_some, List.filterMap_nil]
  split <;> simp_all

/-! ## The state in which a lone grant is applied -/

/-- The presentation is noted, the door's release started, and the credential has left the pairing table. -/
def State.granting (s : State) (a : ReaderNo) (k : DoorNo) (c : Credential) : State :=
  ((s.presented a c).releasedAt k).withdrawMember c

section
variable (s : State) (a : ReaderNo) (k : DoorNo) (c : Credential)

theorem State.releasedAt_settings (j : DoorNo) : ((s.releasedAt k).door j).settings = (s.door j).settings := by
  rw [State.releasedAt, State.door_setDoor]
  split
  next h => rw [← h, DoorChannel.releasing_settings]
  next => rfl

@[simp] theorem State.presented_schedules : (s.presented a c).schedules = s.schedules :=
  Aside.presented (f := State.schedules) (fun _ _ _ _ _ => rfl) s a c

@[simp] theorem State.granting_rooms : (s.granting a k c).rooms = s.rooms := by
  simp [State.granting, State.releasedAt]
@[simp] theorem State.granting_permits : (s.granting a k c).permits = s.permits := by
  simp [State.granting, State.releasedAt]
@[simp] theorem State.granting_schedules : (s.granting a k c).schedules = s.schedules := by
  simp [State.granting, State.releasedAt]
@[simp] theorem State.granting_readers : (s.granting a k c).readers = (s.presented a c).readers := by
  simp [State.granting, State.releasedAt]

theorem State.granting_door (j : DoorNo) :
    (s.granting a k c).door j = if j = k then (s.door k).releasing s.now else s.door j := by
  rw [State.granting, State.door_congr (State.withdrawMember_doors _ _), State.releasedAt, State.door_setDoor]
  simp [eq_comm (a := j)]

theorem State.granting_settings (j : DoorNo) : ((s.granting a k c).door j).settings = (s.door j).settings := by
  rw [State.granting, State.door_congr (State.withdrawMember_doors _ _), State.releasedAt_settings,
    State.presented_door]

theorem State.releasedAt_pairingsWf (h : s.pairingsWf) : ((s.presented a c).releasedAt k).pairingsWf := by
  have h : (s.presented a c).pairingsWf := by simpa using h
  exact h

theorem State.granting_pairing (h : s.pairingsWf) (j : DoorNo) :
    (s.granting a k c).pairing j = s.pairingWithout c j := by
  rw [State.granting, State.pairing_withdrawMember (s.releasedAt_pairingsWf a k c h)]
  exact (State.pairingWithout_congr rfl c j).trans (s.presented_pairingWithout a c c j)

theorem State.desk_granting (hstate : (s.reader a).state ≠ .offline) (h : s.pairingsWf) :
    (s.granting a k c).desk = s.desk.submitAll (s.abandonedReports c) := by
  rw [State.granting, State.desk_withdrawMember (s.releasedAt_pairingsWf a k c h),
    State.abandonedReports_congr (s := s.presented a c) (t := (s.presented a c).releasedAt k) rfl
      (State.releasedAt_settings _ k),
    State.presented_abandonedReports, State.releasedAt, State.desk_setDoor, State.desk_presented hstate]

end

/-! ## The entry of a grant -/

/-- The entry that a grant at a door places, in the statement's terms (R62, R93). -/
def State.grantedEntry (s : State) (k : DoorNo) (c : Credential) (q : Qualifying) : Entry :=
  { credential := c, role := q.permit.role, slot := q.slot, workOrder := q.permit.workOrder
    door := k, state := if (s.door k).wide then .confirmed else .provisional, granted := s.clock.minuteStamp
    confirmed := if (s.door k).wide then s.clock.minuteStamp else none
    entitled := s.entitledUntil q.permit s.clock, overstay := false, revokedInside := false }

theorem State.newEntry_eq_grantedEntry {s t : State} (h : t.schedules = s.schedules) (k : DoorNo) (c : Credential)
    (q : Qualifying) : t.newEntry k c q s.clock (decide (s.door k).wide) = s.grantedEntry k c q := by
  simp [State.newEntry, State.grantedEntry, State.entitledUntil_congr h]

/-- What slot `m` holds once a grant has raised the count of its own slot (R6, R62). -/
def Qualifying.raisedAt (q : Qualifying) (m : Nat) (p : PermitSlot) : PermitSlot :=
  if m = q.slot then { p with count := min (p.count + 1) 15 } else p

theorem slotAt_raised (q : Qualifying) (m : Nat) (table : List (Nat × PermitSlot)) :
    slotAt m (changeSlot q.slot PermitSlot.raised table) = (slotAt m table).map (q.raisedAt m) := by
  rw [slotAt_changeSlot]
  split
  next h => rw [funext fun p => show q.raisedAt m p = p.raised from if_pos h]
  next h => rw [funext fun p => show q.raisedAt m p = p from if_neg h, Option.map_id']

/-! ## What follows from the state that a grant has made -/

section
variable {s : State} {a : ReaderNo} {k : DoorNo} {c : Credential} {q : Qualifying} {ind : Option Indication}
  {ends : Nat}

/-- The presentation is answered, in a state `t`, with GRANT. -/
def State.answersGrant (s : State) (a : ReaderNo) (c : Credential) (t : State) : Prop :=
  exec (.replyReceived (replyFrame a (s.reader a).tamper (some c))) s = .next t ∧ t.tells a .grant

/-- What the queue and the pairing table hold after a grant: the records given, between those of R71 and R86. -/
def State.queuesGrant (s : State) (a : ReaderNo) (c : Credential) (t : State) (reports : List Report)
    (rooms : List RoomNo) : Prop :=
  (s.reader a).state ≠ .offline → s.pairingsWf →
    t.queue = (s.submitAll (s.abandonedReports c ++ reports ++ rooms.flatMap (s.checkReport t))).queue ∧
    ∀ j, t.pairing j = s.pairingWithout c j

/-- A state `g` in which the entries of a lone grant have been changed: it differs from the one in which the grant is
applied in rooms, doors, counts and the records given. -/
structure State.Settles (s : State) (a : ReaderNo) (k : DoorNo) (c : Credential) (g : State) (removed : List Report) :
    Prop where
  readers : g.readers = (s.presented a c).readers
  settings : ∀ j, (g.door j).settings = (s.door j).settings
  rooms : ∀ p, (g.room p).settings = (s.room p).settings ∧ (g.room p).supervision = (s.room p).supervision
  pairings : g.pairings = (s.granting a k c).pairings
  desk : g.desk = (s.granting a k c).desk.submitAll removed

end

/-- The count, the indication and the checks that follow the entries of a lone grant (R62, R64, R86). -/
def State.concluded (g : State) (k : DoorNo) (a : ReaderNo) (c : Credential) (q : Qualifying) (entitled : Option Nat)
    (touched : List RoomNo) : State :=
  ((g.countGrant k a c q entitled).post a .grant).superviseAll touched

section
variable (g : State) (k : DoorNo) (a : ReaderNo) (c : Credential) (q : Qualifying) (entitled : Option Nat)
  (touched : List RoomNo)

@[simp] theorem State.concluded_doors : (g.concluded k a c q entitled touched).doors = g.doors := by
  simp [State.concluded, State.countGrant]

@[simp] theorem State.concluded_pairings : (g.concluded k a c q entitled touched).pairings = g.pairings := by
  simp [State.concluded, State.countGrant]

@[simp] theorem State.concluded_permits :
    (g.concluded k a c q entitled touched).permits = changeSlot q.slot PermitSlot.raised g.permits := by
  simp [State.concluded, State.countGrant]

theorem State.concluded_room (p : RoomNo) :
    ((g.concluded k a c q entitled touched).room p).entries = (g.room p).entries ∧
      ((g.concluded k a c q entitled touched).room p).settings = (g.room p).settings := by
  have hroom : ((g.countGrant k a c q entitled).post a .grant).room p = g.room p :=
    State.room_congr (by simp [State.countGrant]) p
  rw [← hroom]
  exact State.room_superviseAll touched _ p

variable {touched} in
theorem State.desk_concluded (hnodup : touched.Nodup) :
    (g.concluded k a c q entitled touched).desk =
      (g.desk.submit (g.grantReport k a c q entitled)).submitAll (touched.flatMap (g.checkReport g)) := by
  have hroom (p : RoomNo) : ((g.countGrant k a c q entitled).post a .grant).room p = g.room p :=
    State.room_congr (by simp [State.countGrant]) p
  have hchecks : touched.flatMap (((g.countGrant k a c q entitled).post a .grant).checkReport
      ((g.countGrant k a c q entitled).post a .grant)) = touched.flatMap (g.checkReport g) :=
    List.flatMap_congr fun p _ => State.checkReport_congr (by rw [hroom]) (by rw [hroom]) (by rw [hroom])
  rw [State.concluded, State.desk_superviseAll hnodup, hchecks]
  simp [State.countGrant]

/-- The reader of a concluded grant is told GRANT, if it is assigned and not OFFLINE (R64, R164). -/
theorem State.concluded_tells {x : DoorNo × Direction} (hassigned : g.assignment a = some x)
    (hstate : (g.reader a).state ≠ .offline) : (g.concluded k a c q entitled touched).advanceLoop.tells a .grant := by
  have hassigned : (g.countGrant k a c q entitled).assignment a = some x := by
    rw [State.assignment_congr (s := g) (fun j => ?_), hassigned]
    rw [State.door_congr (s := g) (by simp [State.countGrant])]
  have hreader : (g.countGrant k a c q entitled).reader a = g.reader a :=
    State.reader_congr (by simp [State.countGrant]) a
  refine State.advanceLoop_tells ?_
  rw [State.concluded, State.reader_congr (State.superviseAll_readers _ touched),
    State.post_of_reached hassigned (by rwa [hreader]), State.reader_modifyReader, if_pos rfl]

end

section
variable {s : State} {a : ReaderNo} {k : DoorNo} {c : Credential} {q : Qualifying} {ind : Option Indication}
  {ends : Nat}

/-- What a lone grant comes to, in terms of the state in which its entries have been changed (R62, R64, R86). -/
theorem State.exists_granted (hloop : s.loop = .poll a ind ends) (hassignment : s.assignment a = some (k, .entry))
    (hrepeats : s.repeats a c = false) {g : State} {removed : List Report} (hg : s.Settles a k c g removed)
    {entitled : Option Nat} {touched : List RoomNo} (hnodup : touched.Nodup)
    (h : (s.presented a c).present a c = g.concluded k a c q entitled touched) :
    ∃ t, s.answersGrant a c t ∧ (∀ j, t.door j = g.door j) ∧ (∀ p, (t.room p).entries = (g.room p).entries) ∧
      (∀ m, t.slot m = (g.slot m).map (q.raisedAt m)) ∧
      s.queuesGrant a c t (removed ++ [s.grantReport k a c q entitled]) touched := by
  have htroom (p : RoomNo) : ((g.concluded k a c q entitled touched).advanceLoop.room p).entries = (g.room p).entries ∧
      ((g.concluded k a c q entitled touched).advanceLoop.room p).settings = (g.room p).settings := by
    rw [State.room_congr (State.advanceLoop_rooms _)]
    exact g.concluded_room k a c q entitled touched p
  have hassigned : g.assignment a = some (k, .entry) := by rw [State.assignment_congr hg.settings, hassignment]
  have hreader : (g.reader a).state ≠ .offline := by
    rw [State.reader_congr hg.readers, State.presented_reader]
    nofun
  have hreport : g.grantReport k a c q entitled = s.grantReport k a c q entitled := by
    rw [State.grantReport, State.roomOf_congr_settings hg.settings, State.grantReport]
  refine ⟨(g.concluded k a c q entitled touched).advanceLoop,
    ⟨by rw [exec_replyReceived_presentation hloop hrepeats, h], g.concluded_tells k a c q entitled touched hassigned hreader⟩,
    State.door_congr (by simp), fun p => (htroom p).1, fun m => ?_,
    fun hstate hwf => ⟨State.queue_eq_of_desk_eq ?_, fun j => ?_⟩⟩
  · rw [State.slot, State.slot, ← slotAt_raised]
    simp
  · have hchecks := List.flatMap_congr (l := touched) fun p _ =>
      State.checkReport_congr (s := s) (s' := g) (q := p) (hg.rooms p).2 (htroom p).2.symm (htroom p).1.symm
    rw [State.desk_advanceLoop, g.desk_concluded k a c q entitled hnodup, hchecks, hreport, hg.desk,
      s.desk_granting a k c hstate hwf]
    simp [Desk.submitAll_append, Desk.submitAll_cons]
  · rw [← s.granting_pairing a k c hwf]
    exact State.pairing_congr (by simpa using hg.pairings) j

end

/-! ## The entries of a lone grant -/

section
variable {s : State} {a : ReaderNo} {k : DoorNo} {c : Credential}

/-- The new entry of a credential that is in no room (R62). -/
theorem State.settles_new (q : Qualifying) (atOnce : Bool) :
    s.Settles a k c ((s.granting a k c).placeGranted k c q s.clock atOnce) [] where
  readers := by simp
  settings j := by
    rw [State.door_placeGranted]
    split
    next h => rw [h, ← s.granting_settings a k c k]
    next => exact s.granting_settings a k c j
  rooms p := by
    rw [State.room_placeGranted, State.room_congr (s.granting_rooms a k c)]
    exact ⟨rfl, rfl⟩
  pairings := by simp
  desk := by simp [Desk.submitAll_nil]

/-- A credential's own CONFIRMED entry changes where it stands (R63). -/
theorem State.settles_own (r : RoomNo) (f : Entry → Entry) :
    s.Settles a k c ((s.granting a k c).changeEntry r c f) [] where
  readers := by simp [State.changeEntry]
  settings j := s.granting_settings a k c j
  rooms p := by
    rw [State.room_changeEntry, State.room_congr (s.granting_rooms a k c)]
    exact ⟨rfl, rfl⟩
  pairings := by simp [State.changeEntry]
  desk := by simp [Desk.submitAll_nil, State.changeEntry]

theorem State.granting_roomOf (j : DoorNo) : (s.granting a k c).roomOf j = s.roomOf j :=
  State.roomOf_congr_settings (s.granting_settings a k c) j

/-- The state in which a lone grant has removed the credential's old entry (R62). -/
def State.vacated (s : State) (a : ReaderNo) (k : DoorNo) (c : Credential) (r : RoomNo) (e : Entry) : State :=
  (((s.granting a k c).dropEntry r e).submit (removalReport (s.departureKind k r) r e)).handBack e

theorem State.vacated_eq {r : RoomNo} {e : Entry} (h : r = s.roomOf k → e.state = .provisional) :
    (s.granting a k c).removeOldEntry k r e = s.vacated a k c r e := by
  rw [State.removeOldEntry_eq (by rwa [State.granting_roomOf]), State.vacated, State.departureKind,
    State.departureKind, State.granting_roomOf]

section
variable {r : RoomNo} {e : Entry}

theorem State.vacated_door (j : DoorNo) :
    (s.vacated a k c r e).door j = ((s.granting a k c).dropEntry r e).door j := by
  rw [State.vacated, State.door_congr (State.handBack_doors _ e), State.submit_door]

theorem State.vacated_room (p : RoomNo) :
    (s.vacated a k c r e).room p = ((s.granting a k c).dropEntry r e).room p := by
  rw [State.vacated, State.room_congr (State.handBack_rooms _ e), State.submit_room]

theorem State.vacated_settings (j : DoorNo) : ((s.vacated a k c r e).door j).settings = (s.door j).settings := by
  rw [State.vacated_door, State.door_dropEntry, ← s.granting_settings a k c j]

/-- The entry of a credential that leaves its place elsewhere for a new one (R57, R62). -/
theorem State.settles_moved (q : Qualifying) (atOnce : Bool) :
    s.Settles a k c ((s.vacated a k c r e).placeGranted k c q s.clock atOnce)
      [removalReport (s.departureKind k r) r e] where
  readers := by simp [State.vacated]
  settings j := by
    rw [State.door_placeGranted]
    split
    next h => rw [h, ← s.vacated_settings k]
    next => exact s.vacated_settings j
  rooms p := by
    rw [State.room_placeGranted, State.vacated_room, State.room_dropEntry]
    split
    next h => rw [State.room_congr (s.granting_rooms a k c), h]; exact ⟨rfl, rfl⟩
    next => rw [State.room_congr (s.granting_rooms a k c)]; exact ⟨rfl, rfl⟩
  pairings := by simp [State.vacated]
  desk := by simp [State.vacated, Desk.submitAll_singleton]

end

end

theorem State.occupancyWf_congr {s t : State} (h : t.rooms = s.rooms) : t.occupancyWf ↔ s.occupancyWf := by
  have hcount : t.entryCount = s.entryCount := funext fun q => by
    rw [State.entryCount, State.entryCount, State.room_congr h]
  simp only [State.occupancyWf, State.totalEntries, hcount, State.allEntries, State.room_congr h]

theorem State.referencesWf_congr {s t : State} (h : t.rooms = s.rooms)
    (hp : ∀ j, (t.door j).provisional = (s.door j).provisional) : t.referencesWf ↔ s.referencesWf := by
  simp only [State.referencesWf, State.allEntries, State.room_congr h, hp]

/-- A grant at a door starts its release and leaves every list of references (R127). -/
theorem State.granting_provisional (s : State) (a : ReaderNo) (k : DoorNo) (c : Credential) (j : DoorNo) :
    ((s.granting a k c).door j).provisional = (s.door j).provisional := by
  rw [State.granting_door]
  split
  next h => rw [h, DoorChannel.releasing_provisional]
  next => rfl

section
variable {s : State} {a : ReaderNo} {k : DoorNo} {r : RoomNo} {e : Entry} (hwf : s.occupancyWf)
  (he : e ∈ (s.room r).entries)
include hwf he

theorem State.vacated_door_of_wf (href : s.referencesWf) (j : DoorNo) :
    (s.vacated a k e.credential r e).door j =
      { (s.granting a k e.credential).door j with
        provisional := (s.door j).provisional.filter (· ≠ e.credential) } := by
  have hrooms := s.granting_rooms a k e.credential
  rw [State.vacated_door, State.door_dropEntry_of_wf ((State.occupancyWf_congr hrooms).mpr hwf)
    (by rwa [State.room_congr hrooms])
    ((State.referencesWf_congr hrooms (s.granting_provisional a k e.credential)).mpr href),
    State.granting_provisional]

theorem State.vacated_entries_of_wf (p : RoomNo) :
    ((s.vacated a k e.credential r e).room p).entries =
      (s.room p).entries.filter fun y => y.credential ≠ e.credential := by
  have hrooms := s.granting_rooms a k e.credential
  rw [State.vacated_room, State.entries_dropEntry ((State.occupancyWf_congr hrooms).mpr hwf)
    (by rwa [State.room_congr hrooms]), State.room_congr hrooms]

end

/-- What a slot holds once the count of a removed entry is handed back (R7). -/
theorem State.slot_handBack (s : State) (e : Entry) (m : Nat) :
    (s.handBack e).slot m = (s.slot m).map fun p =>
      if e.state = .provisional ∧ m = e.slot ∧ p.permit.credential = e.credential ∧
        p.permit.workOrder = e.workOrder then { p with count := p.count - 1 } else p := by
  rw [State.slot, State.handBack_permits]
  by_cases hstate : e.state = .provisional
  · rw [if_pos hstate, slotAt_changeSlot]
    by_cases hm : m = e.slot
    · simp [hstate, hm, State.slot, funext (PermitSlot.returned.eq_1 e.credential e.workOrder)]
    · simp [hm, State.slot]
  · simp [hstate, State.slot]

/-! ## The decision -/

section
variable {s : State} {a : ReaderNo} {k : DoorNo} {c : Credential} {q : Qualifying} {ind : Option Indication}
  {ends : Nat}

@[simp] theorem State.presented_roomsTouched (s : State) (a : ReaderNo) (c : Credential) (k : DoorNo)
    (cs : List Credential) : (s.presented a c).roomsTouched k cs = s.roomsTouched k cs :=
  Aside.presented (f := (·.roomsTouched k cs)) (fun _ _ _ _ _ => rfl) s a c

variable (hloop : s.loop = .poll a ind ends) (hassignment : s.assignment a = some (k, .entry))
  (hrepeats : s.repeats a c = false) (h1 : s.stage1 k = none) (h2 : s.stage2 c = none)
  (h3 : s.searchPermits (s.roomOf k) s.clock (s.slotsOf c) = .qualifies q)
  (honline : s.needsHeadEnd (s.roomOf k) q.permit.role = false) (hidle : (s.door k).state ≠ .idle)

/-- A lone grant at a door that is not IDLE and has a place for its entries (R61). -/
theorem State.presented_grantSingle {n : Nat} (hidle : (s.door k).state ≠ .idle)
    (hplace : (s.door k).wide ∨ (s.door k).provisional.length + n ≤ 8) :
    (s.presented a c).grantSingle k a c q n s.clock =
      (((s.granting a k c).applyGrant k a c q s.clock (decide (s.door k).wide)).post a .grant).superviseAll
        (s.roomsTouched k [c]) := by
  have hclosed : (s.door k).state = .secure ∨ (s.door k).state = .released →
      (s.door k).provisional.length + n ≤ 8 := fun h =>
    hplace.resolve_left fun hw => by rcases h with h | h <;> simp [DoorChannel.wide, h] at hw
  rw [State.grantSingle_of_taken a c q s.clock (by simpa using hidle) (by simpa using hclosed)]
  simp only [State.presented_door, State.presented_roomsTouched]
  rfl

include hassignment h1 h2 h3 honline hidle

theorem State.present_of_grantsAlone (halone : s.grantsAlone (s.roomOf k)) (henter : s.mayEnter k c)
    (hplace : (s.door k).wide ∨ (s.door k).provisional.length < 8) :
    (s.presented a c).present a c =
      (((s.granting a k c).applyGrant k a c q s.clock (decide (s.door k).wide)).post a .grant).superviseAll
        (s.roomsTouched k [c]) := by
  have h4 := State.stage4_of_mayEnter (role := q.permit.role) (Bool.not_eq_true _ ▸ honline) henter
  rw [State.present_of_qualifiesAt hassignment h1 h2 h3,
    State.decideRoom_of_grantsAlone (by simpa using h4) (by simpa using halone)]
  exact State.presented_grantSingle hidle hplace

theorem State.present_of_own {e : Entry} (he : s.findEntry c = some (s.roomOf k, e)) (hstate : e.state = .confirmed)
    (hpassback : (s.room (s.roomOf k)).settings.passback = false)
    (hplace : (s.door k).wide ∨ (s.door k).provisional.length ≤ 8) :
    (s.presented a c).present a c =
      (((s.granting a k c).applyGrant k a c q s.clock (decide (s.door k).wide)).post a .grant).superviseAll
        (s.roomsTouched k [c]) := by
  have h4 : s.stage4 k c q.permit.role = .overOwn := by
    rw [State.stage4_of_confirmed (Bool.not_eq_true _ ▸ honline) he hstate, hpassback, if_neg Bool.false_ne_true]
  rw [State.present_of_qualifiesAt hassignment h1 h2 h3, State.decideRoom_of_overOwn (by simpa using h4)]
  exact State.presented_grantSingle hidle hplace

include hloop hrepeats

/-- A credential with no entry is granted a new one (R57, R61, R62). -/
theorem State.grants_new_entry (halone : s.grantsAlone (s.roomOf k)) (hnone : s.findEntry c = none)
    (hcap : s.entryCount (s.roomOf k) < (s.room (s.roomOf k)).settings.cap) (hpool : s.totalEntries < 128)
    (hplace : (s.door k).wide ∨ (s.door k).provisional.length < 8) :
    ∃ t, s.answersGrant a c t ∧
      t.door k = { (s.door k).releasing s.now with
        provisional := (s.door k).provisional ++ if (s.door k).wide then [] else [c] } ∧
      (∀ j, j ≠ k → t.door j = s.door j) ∧
      (∀ p, (t.room p).entries = (s.room p).entries ++ if p = s.roomOf k then [s.grantedEntry k c q] else []) ∧
      (∀ m, t.slot m = (s.slot m).map (q.raisedAt m)) ∧
      s.queuesGrant a c t [s.grantReport k a c q (s.entitledUntil q.permit s.clock)] [s.roomOf k] := by
  have hpresent := State.present_of_grantsAlone hassignment h1 h2 h3 honline hidle halone
    (.inl ⟨hnone, hcap, hpool⟩) hplace
  rw [State.applyGrant_of_outside _ _ _ _ (by rwa [State.findEntry_congr (s.granting_rooms a k c)]),
    State.entitledUntil_congr (s.granting_schedules a k c), State.roomsTouched_of_outside k hnone] at hpresent
  obtain ⟨t, hanswer, hdoor, hroom, hslot, hqueue⟩ := State.exists_granted hloop hassignment hrepeats
    (State.settles_new q _) (List.nodup_singleton _) hpresent
  refine ⟨t, hanswer, ?_, fun j hj => ?_, fun p => ?_, fun m => ?_, hqueue⟩
  · rw [hdoor, State.door_placeGranted, if_pos rfl, State.granting_door, if_pos rfl]
    simp [DoorChannel.releasing_provisional]
  · rw [hdoor, State.door_placeGranted, if_neg hj, State.granting_door, if_neg hj]
  · rw [hroom, State.room_placeGranted, State.newEntry_eq_grantedEntry (s.granting_schedules a k c),
      State.granting_roomOf, State.room_congr (s.granting_rooms a k c)]
  · rw [hslot, State.slot_congr (t := State.placeGranted _ _ _ _ _ _) (s := s) (by simp)]

/-- A credential with an entry elsewhere leaves it for a new one (R7, R57, R62, R96). -/
theorem State.grants_moved_entry {r : RoomNo} {e : Entry} (halone : s.grantsAlone (s.roomOf k))
    (hfound : s.findEntry c = some (r, e))
    (hplaces : (r ≠ s.roomOf k ∧ s.entryCount (s.roomOf k) < (s.room (s.roomOf k)).settings.cap) ∨
      (r = s.roomOf k ∧ e.state = .provisional ∧ e.door ≠ k ∧
        s.entryCount (s.roomOf k) ≤ (s.room (s.roomOf k)).settings.cap))
    (hplace : (s.door k).wide ∨ (s.door k).provisional.length < 8) (hwf : s.occupancyWf) (href : s.referencesWf) :
    ∃ t, s.answersGrant a c t ∧
      t.door k = { (s.door k).releasing s.now with
        provisional := (s.door k).provisional.filter (· ≠ c) ++ if (s.door k).wide then [] else [c] } ∧
      (∀ j, j ≠ k → t.door j = { s.door j with provisional := (s.door j).provisional.filter (· ≠ c) }) ∧
      (∀ p, (t.room p).entries = (s.room p).entries.filter (fun y => y.credential ≠ c) ++
        if p = s.roomOf k then [s.grantedEntry k c q] else []) ∧
      (∀ m, t.slot m = (s.slot m).map fun p =>
        q.raisedAt m (if e.state = .provisional ∧ m = e.slot ∧ p.permit.credential = c ∧
          p.permit.workOrder = e.workOrder then { p with count := p.count - 1 } else p)) ∧
      s.queuesGrant a c t
        [removalReport (s.departureKind k r) r e, s.grantReport k a c q (s.entitledUntil q.permit s.clock)]
        (if r = s.roomOf k then [s.roomOf k] else [r, s.roomOf k]) := by
  obtain ⟨hmem, rfl⟩ := State.of_findEntry hfound
  have hr : r = s.roomOf k → e.state = .provisional := fun h => by
    rcases hplaces with ⟨hne, -⟩ | ⟨-, hstate, -, -⟩
    · exact absurd h hne
    · exact hstate
  have hpresent := State.present_of_grantsAlone hassignment h1 h2 h3 honline hidle halone
    (.inr ⟨r, e, hfound, hplaces⟩) hplace
  rw [State.applyGrant_of_moved _ _ _ _ (by rwa [State.findEntry_congr (s.granting_rooms a k e.credential)])
    (by rwa [State.granting_roomOf]), State.vacated_eq hr,
    State.entitledUntil_congr (s.granting_schedules a k e.credential), State.roomsTouched_of_found k hfound] at hpresent
  have hnodup : (if r = s.roomOf k then [s.roomOf k] else [r, s.roomOf k]).Nodup := by split <;> simp [*]
  obtain ⟨t, hanswer, hdoor, hroom, hslot, hqueue⟩ := State.exists_granted hloop hassignment hrepeats
    (State.settles_moved q _) hnodup hpresent
  refine ⟨t, hanswer, ?_, fun j hj => ?_, fun p => ?_, fun m => ?_, hqueue⟩
  · rw [hdoor, State.door_placeGranted, if_pos rfl, State.vacated_door_of_wf hwf hmem href, State.granting_door,
      if_pos rfl]
    simp
  · rw [hdoor, State.door_placeGranted, if_neg hj, State.vacated_door_of_wf hwf hmem href, State.granting_door,
      if_neg hj]
  · have hschedules : (s.vacated a k e.credential r e).schedules = s.schedules := by simp [State.vacated]
    rw [hroom, State.room_placeGranted, State.newEntry_eq_grantedEntry hschedules,
      State.roomOf_congr_settings (s := s) State.vacated_settings, State.vacated_entries_of_wf hwf hmem]
  · rw [hslot, State.slot_congr (State.placeGranted_permits _ _ _ _ _ _), State.vacated, State.slot_handBack,
      State.slot_congr (s := s) (by simp), Option.map_map]
    rfl

/-- A credential with its own CONFIRMED entry in a room without passback is granted over it (R57, R63). -/
theorem State.grants_own_entry {e : Entry} (hfound : s.findEntry c = some (s.roomOf k, e))
    (hstate : e.state = .confirmed) (hpassback : (s.room (s.roomOf k)).settings.passback = false)
    (hplace : (s.door k).wide ∨ (s.door k).provisional.length ≤ 8) :
    ∃ t, s.answersGrant a c t ∧ t.door k = (s.door k).releasing s.now ∧ (∀ j, j ≠ k → t.door j = s.door j) ∧
      (∀ p, (t.room p).entries = (s.room p).entries.map fun y =>
        if p = s.roomOf k ∧ y.credential = c then Entry.regranted q (s.entitledUntil q.permit s.clock) y else y) ∧
      (∀ m, t.slot m = (s.slot m).map (q.raisedAt m)) ∧
      s.queuesGrant a c t [s.grantReport k a c q (s.entitledUntil q.permit s.clock)] [s.roomOf k] := by
  have hpresent := State.present_of_own hassignment h1 h2 h3 honline hidle hfound hstate hpassback hplace
  rw [State.applyGrant_of_own _ _ _ _ (by
      rwa [State.findEntry_congr (s.granting_rooms a k c), State.granting_roomOf]) hstate, State.granting_roomOf,
    State.entitledUntil_congr (s.granting_schedules a k c), State.roomsTouched_of_found k hfound, if_pos rfl] at hpresent
  obtain ⟨t, hanswer, hdoor, hroom, hslot, hqueue⟩ := State.exists_granted hloop hassignment hrepeats
    (State.settles_own _ _) (List.nodup_singleton _) hpresent
  refine ⟨t, hanswer, ?_, fun j hj => ?_, fun p => ?_, fun m => ?_, hqueue⟩
  · rw [hdoor]
    exact (s.granting_door a k c k).trans (if_pos rfl)
  · rw [hdoor]
    exact (s.granting_door a k c j).trans (if_neg hj)
  · rw [hroom, State.room_changeEntry, State.room_congr (s.granting_rooms a k c)]
  · rw [hslot, State.slot_congr (t := State.changeEntry _ _ _ _) (s := s) (by simp [State.changeEntry])]

end

/-! ## Re-grants (R58) -/

/-- The release timer is restarted, and REGRANT names the waiting entry's slot (R58). -/
def State.restarted (s : State) (k : DoorNo) (a : ReaderNo) (e : Entry) : State :=
  (s.modifyDoor k fun d => d.restartRelease s.now).submit
    { kind := .regrant, door := some k, room := some (s.roomOf k), reader := some a, credential := some e.credential
      slot := some e.slot, workOrder := some e.workOrder }

theorem State.regrant_eq (s : State) (k : DoorNo) (a : ReaderNo) (e : Entry) :
    s.regrant k a e = (s.restarted k a e).post a .grant := rfl

theorem State.restarted_door (s : State) (k : DoorNo) (a : ReaderNo) (e : Entry) (j : DoorNo) :
    (s.restarted k a e).door j = if k = j then (s.door k).restartRelease s.now else s.door j := by
  rw [State.restarted, State.submit_door, State.door_modifyDoor]

theorem State.restarted_settings (s : State) (k : DoorNo) (a : ReaderNo) (e : Entry) (j : DoorNo) :
    ((s.restarted k a e).door j).settings = (s.door j).settings := by
  rw [State.restarted_door]
  split
  next h => rw [← h, DoorChannel.restartRelease_eq]
  next => rfl

section
variable {s : State} {a : ReaderNo} {k : DoorNo} {c : Credential} {q : Qualifying} {ind : Option Indication}
  {ends : Nat}

/-- A credential whose PROVISIONAL entry waits at this door is re-granted (R58). -/
theorem State.regrants (hloop : s.loop = .poll a ind ends) (hassignment : s.assignment a = some (k, .entry))
    (hrepeats : s.repeats a c = false) (h1 : s.stage1 k = none) (h2 : s.stage2 c = none)
    (h3 : s.searchPermits (s.roomOf k) s.clock (s.slotsOf c) = .qualifies q)
    (honline : s.needsHeadEnd (s.roomOf k) q.permit.role = false) {e : Entry}
    (hfound : s.findEntry c = some (s.roomOf k, e)) (hstate : e.state = .provisional) (hdoor : e.door = k) :
    ∃ t, s.answersGrant a c t ∧
      t.door k = { s.door k with
        release := if (s.door k).release.isSome then some (s.now + (s.door k).settings.releaseTime * 1000) else none } ∧
      (∀ j, j ≠ k → t.door j = s.door j) ∧ t.rooms = s.rooms ∧ t.permits = s.permits ∧ t.pairings = s.pairings ∧
      ((s.reader a).state ≠ .offline → t.queue = (s.submit
        { kind := .regrant, door := some k, room := some (s.roomOf k), reader := some a, credential := some c
          slot := some e.slot, workOrder := some e.workOrder }).queue) := by
  obtain ⟨-, rfl⟩ := State.of_findEntry hfound
  have h4 : s.stage4 k e.credential q.permit.role = .regrant e := by
    rw [State.stage4_of_provisional (Bool.not_eq_true _ ▸ honline) hfound hstate, if_pos hdoor]
  have hpresent : (s.presented a e.credential).present a e.credential =
      ((s.presented a e.credential).restarted k a e).post a .grant := by
    rw [State.present_of_qualifiesAt hassignment h1 h2 h3, State.decideRoom_of_regrant (by simpa using h4),
      State.regrant_eq]
  generalize hv : (s.presented a e.credential).restarted k a e = v at hpresent
  have hvdoor (j : DoorNo) : v.door j = if k = j then (s.door k).restartRelease s.now else s.door j := by
    simp [← hv, State.restarted_door]
  have hassigned : v.assignment a = some (k, .entry) := by
    rw [State.assignment_congr (s := s) (fun j => ?_), hassignment]
    rw [← hv, State.restarted_settings, State.presented_door]
  have hreader : (v.reader a).state ≠ .offline := by
    rw [State.reader_congr (s := s.presented a e.credential) (by simp [← hv, State.restarted]), State.presented_reader]
    nofun
  have htdoor (j : DoorNo) : (v.post a .grant).advanceLoop.door j = v.door j := State.door_congr (by simp) j
  refine ⟨(v.post a .grant).advanceLoop, ⟨by rw [exec_replyReceived_presentation hloop hrepeats, hpresent],
    State.post_advanceLoop_tells hassigned hreader _⟩, ?_, fun j hj => ?_, by simp [← hv, State.restarted],
    by simp [← hv, State.restarted], by simp [← hv, State.restarted], fun hlink => State.queue_eq_of_desk_eq
      (by simp [← hv, State.restarted, State.desk_presented hlink])⟩
  · rw [htdoor, hvdoor, if_pos rfl, DoorChannel.restartRelease_eq]
  · rw [htdoor, hvdoor, if_neg (Ne.symm hj)]

end

/-- Settles O51: the four lone grants differ in what becomes of the credential's old entry, and agree in what follows
it. -/
theorem singleEntriesAreGranted : Obligations.SingleEntriesAreGranted := by
  unfold Obligations.SingleEntriesAreGranted
  intro s a k c q ind ends hloop hassignment hrepeats h1 h2 h3 honline hidle
  refine ⟨fun halone hnone hcap hpool hplace => ?_, fun r e halone hfound hplaces hplace hwf href => ?_,
    fun e hfound hstate hdoor => ?_, fun e hfound hstate hpassback hplace => ?_⟩
  · exact State.grants_new_entry hloop hassignment hrepeats h1 h2 h3 honline hidle halone hnone hcap hpool hplace
  · have hmoved := State.grants_moved_entry hloop hassignment hrepeats h1 h2 h3 honline hidle halone hfound hplaces
      hplace hwf href
    obtain ⟨-, rfl⟩ := State.of_findEntry hfound
    exact hmoved
  · exact State.regrants hloop hassignment hrepeats h1 h2 h3 honline hfound hstate hdoor
  · exact State.grants_own_entry hloop hassignment hrepeats h1 h2 h3 honline hidle hfound hstate hpassback hplace

end Sys2Proof.Machine

/-! # The supervision of a room (O35) -/

namespace Sys2Proof.Machine

/-- A room is unescorted when lone work is barred in it, it holds a CONFIRMED contractor, and no CONFIRMED escort. -/
theorem Room.isUnescorted_iff (x : Room) :
    x.isUnescorted = true ↔
      x.settings.loneBarred = true ∧ 0 < x.confirmedCount .contractor ∧ x.confirmedCount .escort = 0 := by
  simp [Room.isUnescorted, Room.confirmedCount, List.countP_pos_iff, List.countP_eq_zero, and_assoc]

theorem Room.confirmedCount_eq (x : Room) (role : Role) :
    x.confirmedCount role = (x.entries.filter fun e => e.state = .confirmed ∧ e.role = role).length := by
  rw [Room.confirmedCount, List.countP_eq_length_filter]
  refine congrArg _ (List.filter_congr fun e _ => ?_)
  rw [Entry.confirmedAs, Bool.eq_iff_iff]
  simp

/-- Settles O35: the check compares the room's supervision state with what the room is. -/
theorem supervisionIsReported : Obligations.SupervisionIsReported := by
  unfold Obligations.SupervisionIsReported
  intro s q
  simp only [← Room.confirmedCount_eq, ← Room.isUnescorted_iff]
  refine ⟨fun hclear halone => ?_, fun hunescorted halone => ?_, fun hclear halone => ?_, fun hunescorted halone => ?_⟩
  · simp [State.supervise, hclear, halone]
  · simp [State.supervise, hunescorted, halone]
  · simp [State.supervise, hclear, halone]
  · simp [State.supervise, hunescorted, halone]

end Sys2Proof.Machine

/-! # The re-check of a held member (O53) -/

namespace Sys2Proof.Machine

section
variable {s : State} {k : DoorNo} {reading : Clock} {role : Role} {m : Member}

/-- A revoked member fails under the slot that it arrived with (R47, R77). -/
theorem State.recheck_of_stage2 {r : Reason} (h : s.stage2 m.credential = some r) :
    s.recheck k reading role m = .failed r (some (m.slot, m.workOrder)) := by
  simp [State.recheck, h]

variable (h2 : s.stage2 m.credential = none)
include h2

/-- A failed search names its slot, or the one that the member arrived with (R53, R54, R77). -/
theorem State.recheck_of_fails {r : Reason} {p : Option (Nat × Nat)}
    (h : s.searchPermits (s.roomOf k) reading
      ((s.slotsOf m.credential).filter fun e => e.2.permit.role == role) = .fails r p) :
    s.recheck k reading role m = .failed r (some (p.getD (m.slot, m.workOrder))) := by
  cases p <;> simp [State.recheck, h2, h]

theorem State.recheck_of_qualifies {q : Qualifying}
    (h : s.searchPermits (s.roomOf k) reading
      ((s.slotsOf m.credential).filter fun e => e.2.permit.role == role) = .qualifies q) :
    s.recheck k reading role m = s.recheckRoom k role m q := by
  simp [State.recheck, h2, h]

end

section
variable {s : State} {k : DoorNo} {role : Role} {m : Member} {q : Qualifying}

theorem State.recheckRoom_of_offline (h : s.needsHeadEnd (s.roomOf k) role = true) :
    s.recheckRoom k role m q = .failed .headendOffline q.carried := by
  simp [State.recheckRoom, h]

theorem State.holdsConfirmed_iff {room : RoomNo} {c : Credential} :
    s.holdsConfirmed room c = true ↔ ∃ e, s.findEntry c = some (room, e) ∧ e.state = .confirmed := by
  unfold State.holdsConfirmed
  cases h : s.findEntry c with
  | none => simp
  | some x =>
    obtain ⟨r, e⟩ := x
    simp only [Bool.and_eq_true, decide_eq_true_eq, beq_iff_eq, Option.some.injEq, Prod.mk.injEq]
    exact ⟨fun ⟨hr, he⟩ => ⟨e, ⟨hr, rfl⟩, he⟩, fun ⟨y, ⟨hr, hy⟩, he⟩ => ⟨hr, hy ▸ he⟩⟩

theorem State.recheckRoom_of_inside (honline : ¬s.needsHeadEnd (s.roomOf k) role = true)
    (hinside : s.holdsConfirmed (s.roomOf k) m.credential = true)
    (hpassback : (s.room (s.roomOf k)).settings.passback = true) :
    s.recheckRoom k role m q = .failed .passback q.carried := by
  simp [State.recheckRoom, honline, hinside, hpassback]

theorem State.recheckRoom_of_passed (honline : ¬s.needsHeadEnd (s.roomOf k) role = true)
    (h : ¬(s.holdsConfirmed (s.roomOf k) m.credential = true ∧
      (s.room (s.roomOf k)).settings.passback = true)) :
    s.recheckRoom k role m q = .passed q := by
  simp only [State.recheckRoom, honline, Bool.false_eq_true, Bool.and_eq_true, h, if_false]

end

/-- Settles O53: the re-check is the search of stage 3 over the slots of the member's role, between the checks of
stages 2 and 4. -/
theorem heldMembersAreRechecked : Obligations.HeldMembersAreRechecked := by
  unfold Obligations.HeldMembersAreRechecked
  intro s k reading role m
  dsimp only
  have hslots : (s.permits.filter fun e => e.2.permit.credential == m.credential && e.2.permit.role == role) =
      (s.slotsOf m.credential).filter fun e => e.2.permit.role == role := by
    rw [State.slotsOf, List.filter_filter]
    exact List.filter_congr fun e _ => Bool.and_comm _ _
  rw [hslots]
  simp only [depthOf_eq_depth]
  refine ⟨fun hc hexact => State.recheck_of_stage2 ?_, fun hc hexact hfilter => State.recheck_of_stage2 ?_,
    fun hclear => ?_⟩
  · rw [State.stage2_eq, if_neg hc, if_pos hexact]
  · rw [State.stage2_eq, if_neg hc, if_neg hexact, if_pos hfilter]
  have h2 := State.stage2_of_clear hclear
  refine ⟨fun hnone => State.recheck_of_fails (p := none) h2 (hnone ▸ State.searchPermits_nil _ _),
    fun hslots hunset hdeny => State.recheck_of_fails (p := none) h2 (State.searchPermits_of_unset hslots hunset hdeny),
    fun hreading before n x after hslots => ⟨fun reason hx hbefore hafter => ?_, fun hx hbefore => ?_⟩⟩
  · exact State.recheck_of_fails (p := some (n, x.permit.workOrder)) h2
      (hslots ▸ State.searchPermits_of_deepest hreading hx hbefore hafter)
  · rw [State.recheck_of_qualifies (q := ⟨n, x.permit⟩) h2
      (hslots ▸ State.searchPermits_of_first hreading hx hbefore), ← State.holdsConfirmed_iff, ← State.needsHeadEnd_iff]
    exact ⟨State.recheckRoom_of_offline, State.recheckRoom_of_inside, State.recheckRoom_of_passed⟩

end Sys2Proof.Machine

/-! # Room settings (O31) -/

namespace Sys2Proof.Machine

/-! ## One supervision check (R86) -/

section
variable (s : State) (q : RoomNo)

theorem State.supervise_eq_superviseAll : s.supervise q = s.superviseAll [q] := rfl

@[simp] theorem State.supervise_permits : (s.supervise q).permits = s.permits := s.superviseAll_permits [q]
@[simp] theorem State.supervise_doors : (s.supervise q).doors = s.doors := s.superviseAll_doors [q]
@[simp] theorem State.supervise_pairings : (s.supervise q).pairings = s.pairings := s.superviseAll_pairings [q]
@[simp] theorem State.supervise_readers : (s.supervise q).readers = s.readers := s.superviseAll_readers [q]

theorem State.entries_supervise (p : RoomNo) : ((s.supervise q).room p).entries = (s.room p).entries :=
  (State.room_superviseAll [q] s p).1

theorem State.settings_supervise (p : RoomNo) : ((s.supervise q).room p).settings = (s.room p).settings :=
  (State.room_superviseAll [q] s p).2

/-- Being unescorted does not depend on the supervision state. -/
theorem Room.supervised_isUnescorted (x : Room) : x.supervised.isUnescorted = x.isUnescorted := rfl

theorem Room.supervised_supervision (x : Room) :
    x.supervised.supervision = .unescorted ↔ x.supervised.isUnescorted = true := by
  rw [Room.supervised_isUnescorted, Room.supervised]
  split <;> simp_all

/-- A room that has been checked stands as it is (R86). -/
theorem State.supervision_supervise :
    ((s.supervise q).room q).supervision = .unescorted ↔ (s.supervise q).leftAlone q = true := by
  rw [State.leftAlone_eq, State.room_supervise, if_pos rfl]
  exact (s.room q).supervised_supervision

end

/-- The record of a check, in the terms of the event that it ends (R86). -/
theorem State.desk_supervise {s u : State} {q : RoomNo} (h : (u.room q).supervision = (s.room q).supervision) :
    (u.supervise q).desk = u.desk.submitAll (s.checkReport (u.supervise q) q) := by
  have hreport : s.checkReport (u.supervise q) q = u.checkReport u q :=
    State.checkReport_congr h.symm (u.settings_supervise q q) (u.entries_supervise q q)
  rw [hreport, State.supervise_eq, State.desk_submitAll, State.desk_setRoom]

/-! ## The fields of SET ROOM (R90, R177) -/

theorem yesNoOf_eq (b : Byte) : yesNoOf b = if b.toNat ≤ 1 then some (b == 1) else none := by
  unfold yesNoOf
  by_cases h1 : b = 1
  · subst h1; rfl
  · by_cases h0 : b = 0
    · subst h0; rfl
    · have hbig : ¬b.toNat ≤ 1 := by bv_omega
      rw [if_neg h1, if_neg h0, if_neg hbig]

theorem policyOf_eq (b : Byte) :
    policyOf b =
      if b.toNat ≤ 2 then some (if b = 0 then .single else if b = 1 then .escorted else .escortPresent) else none := by
  unfold policyOf
  by_cases h0 : b = 0
  · subst h0; rfl
  · by_cases h1 : b = 1
    · subst h1; rfl
    · by_cases h2 : b = 2
      · subst h2; rfl
      · have hbig : ¬b.toNat ≤ 2 := by bv_omega
        rw [if_neg h0, if_neg h1, if_neg h2, if_neg hbig]

theorem le_of_yesNoOf {b : Byte} {v : Bool} (h : yesNoOf b = some v) : b.toNat ≤ 1 := by
  rw [yesNoOf_eq] at h
  exact (Option.ite_none_right_eq_some.mp h).1

theorem le_of_policyOf {b : Byte} {v : EntryPolicy} (h : policyOf b = some v) : b.toNat ≤ 2 := by
  rw [policyOf_eq] at h
  exact (Option.ite_none_right_eq_some.mp h).1

theorem sixteenOf_of_val {b : Byte} {q : Fin 16} (h : q.val = b.toNat) : sixteenOf b = some q := by
  rw [sixteenOf, dif_pos (h ▸ q.isLt)]
  exact congrArg some (Fin.ext h.symm)

theorem sixteenOf_of_large {b : Byte} (h : 16 ≤ b.toNat) : sixteenOf b = none :=
  dif_neg (Nat.not_lt.mpr h)

/-- The clamped settings that the fields of SET ROOM name. -/
def roomSettingsNamed (use cap policy passback lone online grace : Byte) : RoomSettings :=
  { inUse := use == 1, cap := min (max cap.toNat 1) 32
    policy := if policy = 0 then .single else if policy = 1 then .escorted else .escortPresent
    passback := passback == 1, loneBarred := lone == 1, onlineOnly := online == 1
    grace := min grace.toNat 240 }

section
variable {use cap policy passback lone online grace : Byte}

theorem roomSettingsOf_of_allowed
    (hpolicy : policy.toNat ≤ 2) (hflags : ∀ b ∈ [use, passback, lone, online], b.toNat ≤ 1) :
    roomSettingsOf [use, cap, policy, passback, lone, online, grace] =
      some (roomSettingsNamed use cap policy passback lone online grace) := by
  simp only [List.forall_mem_cons] at hflags
  obtain ⟨huse, hpassback, hlone, honline, -⟩ := hflags
  simp only [roomSettingsOf, yesNoOf_eq, policyOf_eq, huse, hpolicy, hpassback, hlone, honline, if_true]
  rfl

theorem roomSettingsOf_of_refused
    (h : ¬(policy.toNat ≤ 2 ∧ ∀ b ∈ [use, passback, lone, online], b.toNat ≤ 1)) :
    roomSettingsOf [use, cap, policy, passback, lone, online, grace] = none := by
  unfold roomSettingsOf
  dsimp only
  split
  next huse hpolicy hpassback hlone honline =>
    refine absurd ⟨le_of_policyOf hpolicy, ?_⟩ h
    simp only [List.forall_mem_cons]
    exact ⟨le_of_yesNoOf huse, le_of_yesNoOf hpassback, le_of_yesNoOf hlone, le_of_yesNoOf honline, nofun⟩
  next => rfl

end

/-! ## What SET ROOM does (R90, R91) -/

section
variable {s : State} {n : Byte} {fields : List Byte} {q : RoomNo} {x : RoomSettings}

theorem ownSetRoom_of_running (payload : List Byte) (h : s.run = .running) :
    ownSetRoom payload s = (refuse .notStopped, s) := if_pos h

theorem ownSetRoom_of_refused (hrun : s.run = .stopped) (h : sixteenOf n = none ∨ roomSettingsOf fields = none) :
    ownSetRoom (n :: fields) s = (refuse .badValue, s) := by
  unfold ownSetRoom
  rw [if_neg (by simp [hrun])]
  rcases h with h | h
  · simp [h]
  · cases hn : sixteenOf n <;> simp [h]

variable (hrun : s.run = .stopped) (hq : sixteenOf n = some q) (hx : roomSettingsOf fields = some x)
include hrun hq hx

theorem ownSetRoom_of_unfit (h : (x.inUse = false ∧ (s.room q).entries ≠ []) ∨ x.cap < (s.room q).entries.length) :
    ownSetRoom (n :: fields) s = (refuse .roomOccupied, s) := by
  have h : (!x.inUse && decide (0 < s.entryCount q) || decide (x.cap < s.entryCount q)) = true := by
    rw [← List.length_pos_iff] at h
    change (_ ∧ 0 < s.entryCount q) ∨ x.cap < s.entryCount q at h
    simpa only [Bool.or_eq_true, Bool.and_eq_true, Bool.not_eq_true', decide_eq_true_eq] using h
  unfold ownSetRoom
  rw [if_neg (by simp [hrun])]
  simp only [hq, hx, h, if_true]

theorem ownSetRoom_of_fit (huse : x.inUse = true ∨ (s.room q).entries = []) (hcap : (s.room q).entries.length ≤ x.cap) :
    ownSetRoom (n :: fields) s =
      (accept (.roomStored q x), (s.modifyRoom q fun y => { y with settings := x }).supervise q) := by
  have h : ¬(!x.inUse && decide (0 < s.entryCount q) || decide (x.cap < s.entryCount q)) = true := by
    simp only [Bool.or_eq_true, Bool.and_eq_true, Bool.not_eq_true', decide_eq_true_eq, not_or, not_lt]
    refine ⟨fun ⟨hfalse, hpos⟩ => huse.elim (fun htrue => by simp [htrue] at hfalse) ?_, hcap⟩
    exact List.ne_nil_of_length_pos hpos
  unfold ownSetRoom
  rw [if_neg (by simp [hrun])]
  simp only [hq, hx, if_neg h]

end

/-- Settles O31: SET ROOM is refused by its run state, its fields or the room's entries, and else stores the settings
and checks the room. -/
theorem roomSettingsAreStored : Obligations.RoomSettingsAreStored := by
  unfold Obligations.RoomSettingsAreStored
  intro r s n use cap policy passback lone online grace haddressed hr
  have answer {reply : Reply} {t : State}
      (h : ownSetRoom [n, use, cap, policy, passback, lone, online, grace] s.heard = (reply, t)) :
      exec (.setRoom r) s = .next (t.owing 0x40 reply.result reply.data) :=
    exec_addressed (k := .setRoom) haddressed nofun (by rw [hr]; rfl) (by rw [hr]; exact h)
  dsimp only
  refine ⟨fun hrun => answer (ownSetRoom_of_running _ (by simpa using hrun)), fun hrun hbad => ?_,
    fun hrun hok q hq => ?_⟩
  · refine answer (ownSetRoom_of_refused (by simpa using hrun) ?_)
    by_cases hn : n.toNat ≤ 15
    · exact .inr (roomSettingsOf_of_refused fun hfields => hbad ⟨hn, hfields⟩)
    · exact .inl (sixteenOf_of_large (by omega))
  obtain ⟨-, hpolicy, hflags⟩ := hok
  have hfields := roomSettingsOf_of_allowed (cap := cap) (grace := grace) hpolicy hflags
  have hrun : s.heard.run = .stopped := by simpa using hrun
  have hroom : s.heard.room q = s.room q := s.heard_room q
  change (¬_ → _) ∧ (_ → ∃ t : State, _ ∧ (∀ p, (t.room p).settings =
    if p = q then roomSettingsNamed use cap policy passback lone online grace else (s.room p).settings) ∧ _)
  refine ⟨fun hunfit => answer (ownSetRoom_of_unfit hrun (sixteenOf_of_val hq) hfields ?_), fun ⟨huse, hcap⟩ => ?_⟩
  · rw [hroom, ← Bool.not_eq_true, ← not_le]
    tauto
  · refine ⟨_, answer (ownSetRoom_of_fit hrun (sixteenOf_of_val hq) hfields (hroom ▸ huse) (hroom ▸ hcap)),
      fun p => ?_, fun p => ?_, fun p hp => ?_, State.supervision_supervise _ q, State.queue_eq_of_desk_eq ?_,
      by simp, by simp⟩
    · rw [State.settings_supervise, State.room_modifyRoom, State.heard_room]
      by_cases hp : q = p
      · rw [if_pos hp, if_pos hp.symm]
      · rw [if_neg hp, if_neg (Ne.symm hp), State.heard_room]
    · rw [State.entries_supervise, State.room_modifyRoom, State.heard_room]
      split
      next hp => rw [hp]
      next => rw [State.heard_room]
    · rw [State.room_supervise, if_neg (Ne.symm hp), State.room_modifyRoom, if_neg (Ne.symm hp), State.heard_room]
    · rw [State.desk_supervise (s := s)]
      · simp
      · rw [State.room_modifyRoom, if_pos rfl, hroom]

end Sys2Proof.Machine

/-! # The account of who is inside (R92 to R98, R136)

The account is tidy while no credential holds two entries and the doors' lists name exactly the PROVISIONAL entries. A
change that filters and maps the entries, and filters the lists to match, leaves it tidy. -/

namespace Sys2Proof.Machine

/-! ## A tidy account -/

/-- No credential holds two entries (R92). -/
def State.distinct (s : State) : Prop := (s.allEntries.map Entry.credential).Nodup

/-- No credential holds two entries, and the provisional lists name exactly the PROVISIONAL entries (R92, R94). -/
def State.tidy (s : State) : Prop := s.distinct ∧ s.referencesWf

theorem State.tidy_of_wf {s : State} (hwf : s.occupancyWf) (href : s.referencesWf) : s.tidy := ⟨hwf.2, href⟩

theorem State.mem_allEntries_iff {s : State} {e : Entry} : e ∈ s.allEntries ↔ ∃ r, e ∈ (s.room r).entries := by
  simp [State.allEntries, mem_sixteen]

section
variable {s : State} (h : s.distinct) {r : RoomNo} {e : Entry} (he : e ∈ (s.room r).entries)
include h he

/-- A credential inside has one entry, in one room (R92). -/
theorem State.distinct.once {p : RoomNo} {y : Entry} (hy : y ∈ (s.room p).entries) (hc : y.credential = e.credential) :
    p = r ∧ y = e := by
  refine ⟨?_, List.inj_on_of_nodup_map h (State.mem_allEntries hy) (State.mem_allEntries he) hc⟩
  rw [State.distinct, State.allEntries, List.map_flatMap] at h
  exact eq_of_mem_of_nodup_sixteen h (List.mem_map_of_mem hy) (hc ▸ List.mem_map_of_mem he)

theorem State.distinct.findEntry_of_mem : s.findEntry e.credential = some (r, e) := by
  cases hfound : s.findEntry e.credential with
  | none =>
    have hroom := List.findSome?_eq_none_iff.mp hfound r (mem_sixteen r)
    simp only [Option.map_eq_none_iff, Room.entryOf, List.find?_eq_none, beq_iff_eq] at hroom
    exact absurd rfl (hroom e he)
  | some found =>
    obtain ⟨hy, hc⟩ := State.of_findEntry hfound
    obtain ⟨hr, hy⟩ := h.once he hy hc
    exact congrArg some (Prod.ext hr hy)

/-- A reference to a PROVISIONAL entry is followed to it (R94). -/
theorem State.distinct.referenced_of_mem (hstate : e.state = .provisional) :
    s.referenced e.door e.credential = some (r, e) := by
  simp [State.referenced, h.findEntry_of_mem he, hstate]

end

theorem State.distinct_congr {s t : State}
    (h : ∀ q, (t.room q).entries.map Entry.credential = (s.room q).entries.map Entry.credential) :
    t.distinct ↔ s.distinct := by
  simp only [State.distinct, State.allEntries, List.map_flatMap, h]

theorem State.distinct.findEntry_iff {s : State} (h : s.distinct) {c : Credential} {r : RoomNo} {e : Entry} :
    s.findEntry c = some (r, e) ↔ e ∈ (s.room r).entries ∧ e.credential = c :=
  ⟨State.of_findEntry, fun ⟨he, hc⟩ => hc ▸ h.findEntry_of_mem he⟩

theorem State.findEntry_eq_none_iff {s : State} {c : Credential} :
    s.findEntry c = none ↔ ∀ r, ∀ e ∈ (s.room r).entries, e.credential ≠ c := by
  unfold State.findEntry
  rw [List.findSome?_eq_none_iff]
  simp [mem_sixteen, Room.entryOf]

section
variable {s : State} (h : s.tidy) {r : RoomNo} {e : Entry} (he : e ∈ (s.room r).entries)
include h he

/-- Only the list of its entry door names a credential inside, and only while its entry is PROVISIONAL (R94, R136). -/
theorem State.tidy.mem_provisional_iff (j : DoorNo) :
    e.credential ∈ (s.door j).provisional ↔ e.state = .provisional ∧ e.door = j := by
  rw [(h.2 j).2]
  refine ⟨fun ⟨y, hy, hc, hstate, hdoor⟩ => ?_, fun ⟨hstate, hdoor⟩ =>
    ⟨e, State.mem_allEntries he, rfl, hstate, hdoor⟩⟩
  obtain ⟨p, hp⟩ := State.mem_allEntries_iff.mp hy
  obtain ⟨-, rfl⟩ := h.1.once he hp hc
  exact ⟨hstate, hdoor⟩

/-- The entries that wait at a door are those that its list names (R94). -/
theorem State.tidy.contains_provisional (k : DoorNo) :
    (s.door k).provisional.contains e.credential = (e.state == .provisional && e.door == k) := by
  rw [Bool.eq_iff_iff, List.contains_iff_mem, h.mem_provisional_iff he]
  simp

end

/-- Every reference names a PROVISIONAL entry of its door (R94, R136). -/
theorem State.tidy.exists_of_reference {s : State} (h : s.tidy) {k : DoorNo} {c : Credential}
    (hc : c ∈ (s.door k).provisional) :
    ∃ r e, e ∈ (s.room r).entries ∧ e.credential = c ∧ e.state = .provisional ∧ e.door = k := by
  obtain ⟨e, he, hc, hstate, hdoor⟩ := ((h.2 k).2 c).mp hc
  obtain ⟨r, hr⟩ := State.mem_allEntries_iff.mp he
  exact ⟨r, e, hr, hc, hstate, hdoor⟩

theorem State.tidy_congr {s t : State} (hrooms : t.rooms = s.rooms)
    (hlists : ∀ j, (t.door j).provisional = (s.door j).provisional) : t.tidy ↔ s.tidy := by
  rw [State.tidy, State.tidy, State.referencesWf_congr hrooms hlists, State.distinct, State.distinct, State.allEntries,
    State.allEntries]
  simp only [State.room_congr hrooms]

/-! ## Changes that keep it tidy -/

/-- In `t` the entries of `s` are kept and changed, and the references kept, as given; nothing else of rooms, doors,
pairing records and the run state has changed. -/
structure State.Recasts (s t : State) (keep : Entry → Bool) (change : Entry → Entry)
    (names : DoorNo → Credential → Bool) : Prop where
  room : ∀ q, t.room q = { s.room q with entries := ((s.room q).entries.filter keep).map change }
  door : ∀ k, t.door k = { s.door k with provisional := (s.door k).provisional.filter (names k) }
  pairings : t.pairings = s.pairings
  run : t.run = s.run

section
variable {s t : State} {keep : Entry → Bool} {change : Entry → Entry} {names : DoorNo → Credential → Bool}
  (ht : s.Recasts t keep change names)
include ht

theorem State.Recasts.allEntries : t.allEntries = (s.allEntries.filter keep).map change := by
  simp only [State.allEntries, ht.room, List.filter_flatMap, List.map_flatMap]

theorem State.Recasts.length_le (q : RoomNo) : (t.room q).entries.length ≤ (s.room q).entries.length := by
  rw [ht.room, List.length_map]
  exact List.length_filter_le _ _

/-- A change is tidy when it keeps the credentials, and each list goes on naming just the entries that still wait. -/
theorem State.Recasts.tidy (h : s.tidy)
    (hcredential : ∀ e ∈ s.allEntries, (change e).credential = e.credential)
    (hwaits : ∀ e ∈ s.allEntries, ∀ k, keep e = true ∧ (change e).state = .provisional ∧ (change e).door = k ↔
      e.state = .provisional ∧ e.door = k ∧ names k e.credential = true) : t.tidy := by
  obtain ⟨hnodup, href⟩ := h
  refine ⟨?_, fun k => ⟨?_, fun c => ?_⟩⟩
  · have hcredentials : t.allEntries.map Entry.credential = (s.allEntries.filter keep).map Entry.credential := by
      rw [ht.allEntries, List.map_map]
      exact List.map_congr_left fun e he => hcredential e (List.mem_of_mem_filter he)
    rw [State.distinct, hcredentials]
    exact hnodup.sublist (List.filter_sublist.map _)
  · rw [ht.door]
    exact (href k).1.filter _
  · rw [ht.door, List.mem_filter, (href k).2, ht.allEntries]
    simp only [List.mem_map, List.mem_filter]
    constructor
    · rintro ⟨⟨e, he, rfl, hstate, hdoor⟩, hnamed⟩
      obtain ⟨hkeep, hnew⟩ := (hwaits e he k).mpr ⟨hstate, hdoor, hnamed⟩
      exact ⟨change e, ⟨e, ⟨he, hkeep⟩, rfl⟩, hcredential e he, hnew⟩
    · rintro ⟨_, ⟨e, ⟨he, hkeep⟩, rfl⟩, rfl, hstate, hdoor⟩
      obtain ⟨hstate, hdoor, hnamed⟩ := (hwaits e he k).mp ⟨hkeep, hstate, hdoor⟩
      rw [hcredential e he]
      exact ⟨⟨e, he, rfl, hstate, hdoor⟩, hnamed⟩

end

/-! ## Removals (R96) -/

/-- In `t` some credentials are no longer inside, and nothing else of rooms, doors, pairing records and the run state
has changed. -/
structure State.Removes (s t : State) (gone : Credential → Bool) : Prop where
  room : ∀ q, t.room q = { s.room q with entries := (s.room q).entries.filter fun e => !gone e.credential }
  door : ∀ k, t.door k = { s.door k with provisional := (s.door k).provisional.filter fun c => !gone c }
  pairings : t.pairings = s.pairings
  run : t.run = s.run

theorem State.removes_none (s : State) : s.Removes s fun _ => false := by
  constructor <;> simp

section
variable {s t u : State} {gone more : Credential → Bool}

theorem State.Removes.trans (h : s.Removes t gone) (h' : t.Removes u more) : s.Removes u fun c => gone c || more c where
  room q := by simp [h'.room, h.room, List.filter_filter, Bool.and_comm]
  door k := by simp [h'.door, h.door, List.filter_filter, Bool.and_comm]
  pairings := h'.pairings.trans h.pairings
  run := h'.run.trans h.run

theorem State.Removes.recasts (h : s.Removes t gone) :
    s.Recasts t (fun e => !gone e.credential) id fun _ c => !gone c where
  room q := by rw [h.room, List.map_id]
  door k := h.door k
  pairings := h.pairings
  run := h.run

theorem State.Removes.tidy (h : s.Removes t gone) (hs : s.tidy) : t.tidy :=
  h.recasts.tidy hs (fun _ _ => rfl) fun _ _ _ => by simp only [id_eq]; tauto

theorem State.Removes.of_eq (h : s.Removes t gone) (heq : ∀ c, more c = gone c) : s.Removes t more :=
  funext heq ▸ h

/-- What neither rooms, doors, pairing records nor the run state show does not matter. -/
theorem State.Removes.congr (h : s.Removes t gone) (hrooms : u.rooms = t.rooms) (hdoors : u.doors = t.doors)
    (hpairings : u.pairings = t.pairings) (hrun : u.run = t.run) : s.Removes u gone where
  room q := by rw [State.room_congr hrooms, h.room]
  door k := by rw [State.door_congr hdoors, h.door]
  pairings := hpairings.trans h.pairings
  run := hrun.trans h.run

end

section
variable {s : State} (h : s.tidy) {r : RoomNo} {e : Entry} (he : e ∈ (s.room r).entries)
include h he

/-- Removing an entry takes its credential out of every room and every list (R96). -/
theorem State.tidy.dropEntry_removes : s.Removes (s.dropEntry r e) fun c => c == e.credential where
  room q := by
    rw [State.room_dropEntry]
    split
    next hq => subst hq; simp [beq_eq_decide]
    next hq =>
      have hnone : (s.room q).entries.filter (fun y => !(y.credential == e.credential)) = (s.room q).entries :=
        List.filter_eq_self.mpr fun y hy => by simpa using fun hc => hq (h.1.once he hy hc).1.symm
      rw [hnone]
  door k := by
    rw [State.door_dropEntry]
    split
    next => simp [beq_eq_decide]
    next hk =>
      have hnone : (s.door k).provisional.filter (fun c => !(c == e.credential)) = (s.door k).provisional :=
        List.filter_eq_self.mpr fun c hc => by
          simpa using fun heq : c = e.credential => hk ((h.mem_provisional_iff he k).mp (heq ▸ hc))
      rw [hnone]
  pairings := by simp
  run := by
    obtain ⟨rooms, doors, hform⟩ := s.dropEntry_form r e
    rw [hform]

theorem State.tidy.removeEntry_removes (kind : RecordKind) :
    s.Removes (s.removeEntry kind r e) fun c => c == e.credential :=
  (h.dropEntry_removes he).congr (by simp [State.removeEntry]) (by simp [State.removeEntry])
    (by simp [State.removeEntry]) (by simp [State.removeEntry])

theorem State.tidy.notEntered_removes : s.Removes (s.notEntered r e) fun c => c == e.credential :=
  (h.removeEntry_removes he .notEntered).congr rfl rfl rfl rfl

theorem State.tidy.clearEntry_removes : s.Removes (s.clearEntry r e) fun c => c == e.credential :=
  (h.dropEntry_removes he).congr (by simp [State.clearEntry]) (by simp [State.clearEntry])
    (by simp [State.clearEntry]) (by simp [State.clearEntry])

end

/-! ## The list of a door is handed over (R95, R97) -/

/-- The references of a door are dropped one by one, and with each its entry (R97). -/
theorem State.tidy.foldl_dropReference_removes {k : DoorNo} {l : List Credential} (hl : l.Nodup) {s : State}
    (h : s.tidy) (hsub : ∀ c ∈ l, c ∈ (s.door k).provisional) :
    s.Removes (l.foldl (State.dropReference k) s) fun c => l.contains c := by
  induction l generalizing s with
  | nil => simpa using s.removes_none
  | cons c l ih =>
    obtain ⟨hc, hl'⟩ := List.nodup_cons.mp hl
    obtain ⟨r, e, he, rfl, hstate, rfl⟩ := h.exists_of_reference (hsub c List.mem_cons_self)
    have hstep : s.dropReference e.door e.credential = s.notEntered r e := by
      simp [State.dropReference, h.1.referenced_of_mem he hstate]
    have hremoves := h.notEntered_removes he
    rw [List.foldl_cons, hstep]
    refine (hremoves.trans (ih hl' (hremoves.tidy h) fun c hc' => ?_)).of_eq fun c => by
      simp [beq_eq_decide]
    rw [hremoves.door]
    exact List.mem_filter.mpr ⟨hsub c (List.mem_cons_of_mem _ hc'), by
      simpa using fun heq : c = e.credential => hc (heq ▸ hc')⟩

/-- A door's list handed over at the end of a release: its entries are removed and the list is empty, before the
checks (R97). -/
theorem State.tidy.drop_removes {s : State} (h : s.tidy) (k : DoorNo) :
    s.Removes (((s.door k).provisional.foldl (State.dropReference k) s).clearReferences k)
      fun c => (s.door k).provisional.contains c := by
  have hfold := State.tidy.foldl_dropReference_removes (h.2 k).1 h fun _ hc => hc
  refine ⟨hfold.room, fun j => ?_, hfold.pairings, hfold.run⟩
  have hempty : (s.door k).provisional.filter (fun c => !(s.door k).provisional.contains c) = [] :=
    List.filter_eq_nil_iff.mpr fun c hc => by simp [hc]
  rw [State.clearReferences, State.door_modifyDoor]
  split
  next hj => subst hj; rw [hfold.door, hempty]
  next => exact hfold.door j

theorem State.dropReferences_eq (s : State) (k : DoorNo) :
    s.dropReferences k =
      (((s.door k).provisional.foldl (State.dropReference k) s).clearReferences k).superviseAll
        (s.referencedRooms k) := rfl

/-- An entry that a door's opening confirms, with the stamp of the reading (R95). -/
def Entry.confirmedAt (stamp : Option Nat) (e : Entry) : Entry := { e with state := .confirmed, confirmed := stamp }

section
variable {k : DoorNo} {s : State}

/-- One reference at an opening changes the entry it names where it stands (R95). -/
theorem State.distinct.confirmReference_eq (h : s.distinct) {r : RoomNo} {e : Entry} (he : e ∈ (s.room r).entries)
    (hstate : e.state = .provisional) :
    s.confirmReference e.door e.credential =
      s.changeEntry r e.credential (Entry.confirmedAt s.clock.minuteStamp) := by
  rw [State.confirmReference, h.referenced_of_mem he hstate]
  rfl

/-- The references of a door are confirmed one by one (R95). -/
theorem State.distinct.room_foldl_confirmReference {l : List Credential} (hl : l.Nodup) (h : s.distinct)
    (hsub : ∀ c ∈ l, ∃ r, ∃ e ∈ (s.room r).entries, e.credential = c ∧ e.state = .provisional ∧ e.door = k)
    (q : RoomNo) :
    (l.foldl (State.confirmReference k) s).room q = { s.room q with
      entries := (s.room q).entries.map fun e =>
        if l.contains e.credential then e.confirmedAt s.clock.minuteStamp else e } := by
  induction l generalizing s with
  | nil => simp
  | cons c l ih =>
    obtain ⟨hc, hl'⟩ := List.nodup_cons.mp hl
    obtain ⟨r, e, he, rfl, hstate, rfl⟩ := hsub c List.mem_cons_self
    have hother (y : Entry) (hy : y.credential ∈ l) : y.credential ≠ e.credential := fun heq => hc (heq ▸ hy)
    have hroom (p : RoomNo) := s.room_changeEntry r e.credential (Entry.confirmedAt s.clock.minuteStamp) p
    have hdistinct : (s.changeEntry r e.credential (Entry.confirmedAt s.clock.minuteStamp)).distinct := by
      refine (State.distinct_congr fun p => ?_).mpr h
      rw [hroom, List.map_map]
      refine List.map_congr_left fun y _ => ?_
      simp only [Function.comp_apply]
      split <;> rfl
    rw [List.foldl_cons, h.confirmReference_eq he hstate, ih hl' hdistinct fun c' hc' => ?_]
    · rw [hroom]
      simp only [List.map_map, Room.mk.injEq, true_and]
      refine List.map_congr_left fun y hy => ?_
      by_cases hyc : y.credential = e.credential
      · obtain ⟨rfl, rfl⟩ := h.once he hy hyc
        simp [Entry.confirmedAt, hc]
      · simp [hyc]
        rfl
    · obtain ⟨p, y, hy, rfl, hwaits⟩ := hsub c' (List.mem_cons_of_mem _ hc')
      refine ⟨p, y, ?_, rfl, hwaits⟩
      rw [hroom]
      exact List.mem_map.mpr ⟨y, hy, if_neg fun hyc => hother y hc' hyc.2⟩

/-- Confirming changes rooms, and nothing else. -/
theorem State.foldl_confirmReference_form (k : DoorNo) (l : List Credential) (s : State) :
    ∃ rooms, l.foldl (State.confirmReference k) s = { s with rooms := rooms } := by
  refine foldl_keeps (P := fun t => ∃ rooms, t = { s with rooms := rooms }) ?_ l s ⟨s.rooms, rfl⟩
  rintro _ c ⟨rooms, rfl⟩
  unfold State.confirmReference
  split
  · exact ⟨_, rfl⟩
  · exact ⟨_, rfl⟩

/-- The entries that wait at a door are confirmed and its list is empty, before the checks (R95). -/
theorem State.tidy.confirms (h : s.tidy) (k : DoorNo) :
    s.Recasts (((s.door k).provisional.foldl (State.confirmReference k) s).clearReferences k) (fun _ => true)
      (fun e => if e.state = .provisional ∧ e.door = k then e.confirmedAt s.clock.minuteStamp else e)
      fun j _ => j != k := by
  have hsub : ∀ c ∈ (s.door k).provisional,
      ∃ r, ∃ e ∈ (s.room r).entries, e.credential = c ∧ e.state = .provisional ∧ e.door = k := fun c hc =>
    have ⟨r, e, he, hwaits⟩ := h.exists_of_reference hc
    ⟨r, e, he, hwaits⟩
  have hroom := h.1.room_foldl_confirmReference (h.2 k).1 hsub
  obtain ⟨rooms, hform⟩ := State.foldl_confirmReference_form k (s.door k).provisional s
  refine ⟨fun q => ?_, fun j => ?_, ?_, ?_⟩
  · refine (hroom q).trans ?_
    simp only [List.filter_true, Room.mk.injEq, true_and]
    refine List.map_congr_left fun e he => ?_
    rw [h.contains_provisional he]
    simp
  · have hdoor (i : DoorNo) : ((s.door k).provisional.foldl (State.confirmReference k) s).door i = s.door i := by
      rw [hform]; rfl
    rw [State.clearReferences, State.door_modifyDoor, hdoor k, hdoor j]
    split
    next hj => simp [hj]
    next hj => rw [bne_iff_ne.mpr (Ne.symm hj), List.filter_true]
  · rw [hform]; rfl
  · rw [hform]; rfl

theorem State.confirmReferences_eq (s : State) (k : DoorNo) :
    s.confirmReferences k =
      (((s.door k).provisional.foldl (State.confirmReference k) s).clearReferences k).superviseAll
        (s.referencedRooms k) := rfl

end

end Sys2Proof.Machine

/-! # Clearing a room (O33) -/

namespace Sys2Proof.Machine

/-- The OCCUPANT_CLEARED record of an entry (R106). -/
def clearedReport (r : RoomNo) (e : Entry) : Report :=
  { removalReport .occupantCleared r e with detail := some e.flags }

section
variable (r : RoomNo) (l : List Entry) (s : State)

/-- Clearing entries of a room takes their credentials out of that room (R96, R107). -/
theorem State.room_foldl_clearEntry (p : RoomNo) :
    (l.foldl (State.clearEntry r) s).room p = { s.room p with
      entries := (s.room p).entries.filter fun y => !(decide (p = r) && l.any fun e => e.credential == y.credential) } := by
  induction l generalizing s with
  | nil => simp
  | cons e l ih =>
    rw [List.foldl_cons, ih, State.clearEntry, State.submit_room, State.room_dropEntry]
    by_cases hp : r = p
    · subst hp
      simp [List.filter_filter, Bool.and_comm, eq_comm, beq_eq_decide]
    · simp [hp, Ne.symm hp]

/-- Clearing entries takes the references of the PROVISIONAL ones out of their doors' lists (R96). -/
theorem State.door_foldl_clearEntry (k : DoorNo) :
    (l.foldl (State.clearEntry r) s).door k = { s.door k with
      provisional := (s.door k).provisional.filter fun c =>
        !l.any fun e => e.credential == c && e.state == .provisional && e.door == k } := by
  induction l generalizing s with
  | nil => simp
  | cons e l ih =>
    rw [List.foldl_cons, ih, State.clearEntry, State.submit_door, State.door_dropEntry]
    by_cases hk : e.state = .provisional ∧ e.door = k
    · simp [hk, List.filter_filter, Bool.and_comm (!decide _), beq_eq_decide, eq_comm (a := e.credential)]
    · have hkept : (e.state == .provisional && e.door == k) = false := by simpa using hk
      simp [hk, Bool.and_assoc, hkept]

theorem State.foldl_clearEntry_form :
    ∃ rooms doors q n m, l.foldl (State.clearEntry r) s =
      { s with rooms := rooms, doors := doors, queue := q, nextSequence := n, lost := m } := by
  refine foldl_keeps (P := fun t => ∃ rooms doors q n m, t =
    { s with rooms := rooms, doors := doors, queue := q, nextSequence := n, lost := m }) ?_ l s ⟨_, _, _, _, _, rfl⟩
  rintro _ e ⟨_, _, _, _, _, rfl⟩
  obtain ⟨_, _, hdrop⟩ := State.dropEntry_form _ r e
  rw [State.clearEntry, hdrop]
  obtain ⟨_, _, _, hsubmit⟩ := State.submit_form _ _
  exact ⟨_, _, _, _, _, hsubmit⟩

theorem State.desk_foldl_clearEntry :
    (l.foldl (State.clearEntry r) s).desk = s.desk.submitAll (l.map (clearedReport r)) := by
  induction l generalizing s with
  | nil => rfl
  | cons e l ih => simp [ih, State.clearEntry, clearedReport, Desk.submitAll_cons]

end

theorem ownClearRoom_of_large {b : Byte} {s : State} (h : 16 ≤ b.toNat) :
    ownClearRoom [b] s = (refuse .badValue, s) := by
  simp [ownClearRoom, sixteenOf_of_large h]

theorem ownClearRoom_of_room {b : Byte} {s : State} {q : RoomNo} (h : q.val = b.toNat) :
    ownClearRoom [b] s = (accept (.roomCleared (s.room q).entries.length),
      ((s.room q).entries.foldl (State.clearEntry q) s).supervise q) := by
  simp [ownClearRoom, sixteenOf_of_val h]

/-- Settles O33: the entries are cleared one by one, and the room is checked once. -/
theorem roomsAreCleared : Obligations.RoomsAreCleared := by
  unfold Obligations.RoomsAreCleared
  intro r s b haddressed hr
  have answer {reply : Reply} {t : State} (h : ownClearRoom [b] s.heard = (reply, t)) :
      exec (.clearRoom r) s = .next (t.owing 0x43 reply.result reply.data) :=
    exec_addressed (k := .clearRoom) haddressed nofun (by rw [hr]; rfl) (by rw [hr]; exact h)
  refine ⟨fun hb => ?_, fun hlarge => answer (ownClearRoom_of_large hlarge)⟩
  dsimp only
  have hcleared := ownClearRoom_of_room (s := s.heard) (q := ⟨b.toNat, hb⟩) rfl
  rw [State.heard_room] at hcleared
  refine ⟨_, answer hcleared, fun p => ?_, ?_, State.queue_eq_of_desk_eq ?_, fun k => ?_⟩
  · rw [State.entries_supervise, State.room_foldl_clearEntry, State.heard_room]
    split
    next hp =>
      subst hp
      refine List.filter_eq_nil_iff.mpr fun e he => ?_
      simpa using ⟨e, he, rfl⟩
    next hp => simp [hp]
  · obtain ⟨_, _, _, _, _, hform⟩ :=
      State.foldl_clearEntry_form ⟨b.toNat, hb⟩ (s.room ⟨b.toNat, hb⟩).entries s.heard
    rw [State.supervise_permits, hform, State.heard_permits]
  · rw [State.desk_supervise (s := s) (by simp [State.room_foldl_clearEntry]), State.desk_foldl_clearEntry,
      State.desk_submitAll, Desk.submitAll_append]
    rfl
  · rw [State.door_congr (State.supervise_doors _ _), State.door_foldl_clearEntry, State.heard_door]

end Sys2Proof.Machine

/-! # What an account keeps (O34)

An account is sound when it is tidy, its rooms' supervision states are right, its pairing table is well formed and its
caps hold, each as far as it was so when the step began. Every operation keeps a sound account sound. -/

namespace Sys2Proof.Machine

/-! ## A sound account -/

/-- What the account asks of a door: its settings and its list. -/
def DoorChannel.claims (d : DoorChannel) : DoorSettings × List Credential := (d.settings, d.provisional)

/-- The parts of the state that the account speaks of: the rooms, what it asks of the doors, the pairing records and
the run state. -/
def State.account (s : State) :
    Vector Room 16 × (DoorNo → DoorSettings × List Credential) × Vector (Option PairingRecord) 16 × RunState :=
  (s.rooms, fun k => (s.door k).claims, s.pairings, s.run)

theorem State.account_eq_iff {s t : State} :
    t.account = s.account ↔ t.rooms = s.rooms ∧ (∀ k, (t.door k).settings = (s.door k).settings ∧
      (t.door k).provisional = (s.door k).provisional) ∧ t.pairings = s.pairings ∧ t.run = s.run := by
  simp [State.account, DoorChannel.claims, funext_iff]

/-- The account is tidy, and has what it is given to have: supervision states that are right, a well-formed pairing
table with room in the pool, and caps that hold. -/
structure State.Sound (tended paired capped : Prop) (s : State) : Prop where
  tidy : s.tidy
  supervision : tended → s.supervisionWf
  pairings : paired → s.pairingsWf ∧ s.totalEntries ≤ 128
  caps : paired → capped → s.capsWf

theorem State.openPairings_congr {s t : State} (h : t.pairings = s.pairings) : t.openPairings = s.openPairings := by
  simp only [State.openPairings, State.pairing_congr h]

theorem State.waiting_congr {s t : State} (h : t.pairings = s.pairings) : t.waiting = s.waiting := by
  simp only [State.waiting, State.pairing_congr h]

theorem State.pairingsWf_congr {s t : State} (h : t.pairings = s.pairings) (hrun : t.run = s.run) :
    t.pairingsWf ↔ s.pairingsWf := by
  simp only [State.pairingsWf, State.openPairings_congr h, State.waiting_congr h, State.pairing_congr h, hrun]

theorem State.totalEntries_congr {s t : State} (h : t.rooms = s.rooms) : t.totalEntries = s.totalEntries := by
  have hcount : t.entryCount = s.entryCount := funext fun r => by rw [State.entryCount, State.room_congr h]; rfl
  rw [State.totalEntries, hcount]
  rfl

theorem State.capsWf_congr {s t : State} (h : t.rooms = s.rooms)
    (hsettings : ∀ k, (t.door k).settings = (s.door k).settings) (hrun : t.run = s.run) : t.capsWf ↔ s.capsWf := by
  simp only [State.capsWf, State.room_congr h, State.roomOf_congr_settings hsettings, hsettings, hrun]

section
variable {tended paired capped : Prop} {s t : State}

/-- What the account does not speak of does not matter. -/
theorem State.Sound.frame (h : s.Sound tended paired capped) (hst : t.account = s.account) :
    t.Sound tended paired capped := by
  obtain ⟨hrooms, hdoors, hpairings, hrun⟩ := State.account_eq_iff.mp hst
  refine ⟨(State.tidy_congr hrooms fun k => (hdoors k).2).mpr h.tidy, fun hw => ?_, fun hp => ?_, fun hp hc => ?_⟩
  · simpa only [State.supervisionWf, State.room_congr hrooms] using h.supervision hw
  · rw [State.pairingsWf_congr hpairings hrun, State.totalEntries_congr hrooms]
    exact h.pairings hp
  · exact (State.capsWf_congr hrooms (fun k => (hdoors k).1) hrun).mpr (h.caps hp hc)

end

/-! ## Supervision checks (R86) -/

theorem Room.supervised_supervised (x : Room) : x.supervised.supervised = x.supervised := rfl

/-- Rooms that are checked stand as they are, however often they are checked; no other room changes (R86). -/
theorem State.room_superviseAll_eq (l : List RoomNo) (s : State) (p : RoomNo) :
    (s.superviseAll l).room p = if p ∈ l then (s.room p).supervised else s.room p := by
  induction l generalizing s with
  | nil => rfl
  | cons q l ih =>
    have hcons : s.superviseAll (q :: l) = (s.supervise q).superviseAll l := rfl
    rw [hcons, ih, State.room_supervise]
    by_cases hp : q = p
    · subst hp
      simp [Room.supervised_supervised]
    · simp [hp, Ne.symm hp]

/-- The checks leave every room right when the rooms that they leave out still stand as they did (R86). -/
theorem State.supervisionWf_superviseAll {s t : State} {l : List RoomNo} (h : s.supervisionWf)
    (hout : ∀ q, q ∉ l → (t.room q).supervision = (s.room q).supervision ∧
      (t.room q).isUnescorted = (s.room q).isUnescorted) : (t.superviseAll l).supervisionWf := by
  intro q
  rw [State.room_superviseAll_eq]
  split
  · exact (t.room q).supervised_supervision
  next hq =>
    obtain ⟨hsupervision, halone⟩ := hout q hq
    rw [hsupervision, halone]
    exact h q

theorem State.superviseAll_run (l : List RoomNo) (s : State) : (s.superviseAll l).run = s.run := by
  obtain ⟨_, _, _, _, h⟩ := State.superviseAll_form l s
  rw [h]

section
variable (l : List RoomNo) (s : State)

theorem State.entries_superviseAll (q : RoomNo) : ((s.superviseAll l).room q).entries = (s.room q).entries :=
  (State.room_superviseAll l s q).1

theorem State.settings_superviseAll (q : RoomNo) : ((s.superviseAll l).room q).settings = (s.room q).settings :=
  (State.room_superviseAll l s q).2

theorem State.door_superviseAll (k : DoorNo) : (s.superviseAll l).door k = s.door k :=
  State.door_congr (State.superviseAll_doors s l) k

theorem State.tidy_superviseAll : (s.superviseAll l).tidy ↔ s.tidy := by
  simp only [State.tidy, State.distinct, State.referencesWf, State.allEntries, State.entries_superviseAll,
    State.door_superviseAll]

end

/-! ## Changes that add no entry -/

section
variable {tended paired capped : Prop} {s t : State}

theorem State.totalEntries_le (h : ∀ q, (t.room q).entries.length ≤ (s.room q).entries.length) :
    t.totalEntries ≤ s.totalEntries := by
  rw [State.totalEntries, State.totalEntries]
  exact List.sum_le_sum fun q _ => h q

/-- A change that adds no entry, and leaves settings, pairing records and the run state alone, keeps the account sound
once the rooms that it concerns are checked. -/
theorem State.Sound.check (h : s.Sound tended paired capped) (htidy : t.tidy)
    (hsettings : ∀ q, (t.room q).settings = (s.room q).settings)
    (hlength : ∀ q, (t.room q).entries.length ≤ (s.room q).entries.length)
    (hdoors : ∀ k, (t.door k).settings = (s.door k).settings) (hpairings : t.pairings = s.pairings)
    (hrun : t.run = s.run) {l : List RoomNo}
    (hout : ∀ q, q ∉ l → (t.room q).supervision = (s.room q).supervision ∧
      (t.room q).isUnescorted = (s.room q).isUnescorted) : (t.superviseAll l).Sound tended paired capped := by
  have hless (q : RoomNo) : ((t.superviseAll l).room q).entries.length ≤ (s.room q).entries.length := by
    rw [State.entries_superviseAll]
    exact hlength q
  have hdoor (k : DoorNo) : ((t.superviseAll l).door k).settings = (s.door k).settings := by
    rw [State.door_superviseAll, hdoors]
  have hroom (q : RoomNo) : ((t.superviseAll l).room q).settings = (s.room q).settings := by
    rw [State.settings_superviseAll, hsettings]
  refine ⟨(State.tidy_superviseAll l t).mpr htidy, fun hw => State.supervisionWf_superviseAll (h.supervision hw) hout,
    fun hp => ?_, fun hp hc => ⟨fun q => ?_, ?_⟩⟩
  · obtain ⟨hwf, htotal⟩ := h.pairings hp
    exact ⟨(State.pairingsWf_congr ((State.superviseAll_pairings t l).trans hpairings)
      ((State.superviseAll_run l t).trans hrun)).mpr hwf, (State.totalEntries_le hless).trans htotal⟩
  · obtain ⟨hcaps, -⟩ := h.caps hp hc
    obtain ⟨hcap, hempty⟩ := hcaps q
    rw [hroom]
    refine ⟨(hless q).trans hcap, fun hunused => List.eq_nil_of_length_eq_zero ?_⟩
    simpa [hempty hunused] using hless q
  · obtain ⟨-, hused⟩ := h.caps hp hc
    simpa only [State.superviseAll_run, hrun, hdoor, hroom, State.roomOf_congr_settings hdoor] using hused

/-- Entries changed where they stand, or removed, in a tidy account (R95, R96). -/
theorem State.Sound.recast {keep : Entry → Bool} {change : Entry → Entry} {names : DoorNo → Credential → Bool}
    (h : s.Sound tended paired capped) (ht : s.Recasts t keep change names) (htidy : t.tidy) {l : List RoomNo}
    (hout : ∀ q, q ∉ l → (t.room q).isUnescorted = (s.room q).isUnescorted) :
    (t.superviseAll l).Sound tended paired capped :=
  h.check htidy (fun q => by rw [ht.room]) ht.length_le (fun k => by rw [ht.door]) ht.pairings ht.run
    fun q hq => ⟨by rw [ht.room], hout q hq⟩

/-- A room is as unescorted as it was when all that has gone was PROVISIONAL (R86). -/
theorem Room.isUnescorted_filter {x : Room} {keep : Entry → Bool}
    (h : ∀ e ∈ x.entries, e.state = .confirmed → keep e = true) :
    ({ x with entries := x.entries.filter keep } : Room).isUnescorted = x.isUnescorted := by
  have hany (role : Role) : (x.entries.filter keep).any (Entry.confirmedAs role) =
      x.entries.any (Entry.confirmedAs role) := by
    rw [Bool.eq_iff_iff, List.any_eq_true, List.any_eq_true]
    constructor
    · rintro ⟨e, he, hconfirmed⟩
      exact ⟨e, List.mem_of_mem_filter he, hconfirmed⟩
    · rintro ⟨e, he, hconfirmed⟩
      have hstate : e.state = .confirmed := by simp_all [Entry.confirmedAs]
      exact ⟨e, List.mem_filter.mpr ⟨he, h e he hstate⟩, hconfirmed⟩
  rw [Room.isUnescorted, Room.isUnescorted, hany, hany]

/-- Removals keep the account sound when every room that loses a CONFIRMED entry is checked (R86, R96). -/
theorem State.Sound.remove {gone : Credential → Bool} (h : s.Sound tended paired capped) (ht : s.Removes t gone)
    {l : List RoomNo}
    (hout : ∀ q, q ∉ l → ∀ e ∈ (s.room q).entries, e.state = .confirmed → gone e.credential = false) :
    (t.superviseAll l).Sound tended paired capped := by
  refine h.recast ht.recasts (ht.tidy h.tidy) fun q hq => ?_
  rw [ht.room]
  exact Room.isUnescorted_filter fun e he hstate => by rw [hout q hq e he hstate]; rfl

end

end Sys2Proof.Machine

/-! # Operations that the account does not notice (O34) -/

namespace Sys2Proof.Machine

/-! ## Readers, the loop and the link -/

section
variable (s : State)

@[simp] theorem State.account_submit (r : Report) : (s.submit r).account = s.account := by simp [State.account]

@[simp] theorem State.account_submitAll (rs : List Report) : (s.submitAll rs).account = s.account := by
  simp [State.account]

@[simp] theorem State.account_setReader (a : ReaderNo) (x : Reader) : (s.setReader a x).account = s.account := rfl

@[simp] theorem State.account_modifyReader (a : ReaderNo) (f : Reader → Reader) :
    (s.modifyReader a f).account = s.account := rfl

@[simp] theorem State.account_setInput (i : InputNo) (x : InputLine) : (s.setInput i x).account = s.account := rfl

@[simp] theorem State.account_modifyInput (i : InputNo) (f : InputLine → InputLine) :
    (s.modifyInput i f).account = s.account := rfl

@[simp] theorem State.account_reach (moment : Nat) : (s.reach moment).account = s.account := rfl

@[simp] theorem State.account_returnCount (n : Nat) (c : Credential) (w : Nat) :
    (s.returnCount n c w).account = s.account := rfl

@[simp] theorem State.account_raiseCount (n : Nat) : (s.raiseCount n).account = s.account := rfl

@[simp] theorem State.account_post (a : ReaderNo) (ind : Indication) : (s.post a ind).account = s.account := by
  obtain ⟨_, h⟩ := s.post_form a ind
  rw [h]
  rfl

@[simp] theorem State.account_postAtDoor (k : DoorNo) (ind : Indication) :
    (s.postAtDoor k ind).account = s.account := by
  unfold State.postAtDoor
  split <;> simp

@[simp] theorem State.account_readerMissed (a : ReaderNo) : (s.readerMissed a).account = s.account := by
  unfold State.readerMissed
  dsimp only
  split <;> simp

@[simp] theorem State.account_readerHeard (a : ReaderNo) : (s.readerHeard a).account = s.account := by
  unfold State.readerHeard
  dsimp only
  split <;> simp

@[simp] theorem State.account_readerTamper (a : ReaderNo) (tamper : Option Bool) :
    (s.readerTamper a tamper).account = s.account := by
  unfold State.readerTamper
  split
  · rfl
  · split
    · rfl
    · dsimp only
      split <;> simp

theorem State.account_forgetReassigned (old : State) (a : ReaderNo) :
    (State.forgetReassigned old s a).account = s.account := by
  unfold State.forgetReassigned
  split <;> rfl

@[simp] theorem State.account_advanceLoop : s.advanceLoop.account = s.account := by
  rcases s.advanceLoop_cases with ⟨_, _, _, _, h⟩ | ⟨_, _, _, _, _, h⟩ <;> rw [h] <;> rfl

@[simp] theorem State.account_restartLoop : s.restartLoop.account = s.account := by
  rw [State.restartLoop, State.account_advanceLoop]
  rfl

@[simp] theorem State.account_wakeLoop : s.wakeLoop.account = s.account := by
  unfold State.wakeLoop
  split
  · rw [State.account_advanceLoop]
    rfl
  · rfl

@[simp] theorem State.account_beginRound : s.endRound.beginRound.account = s.account := by
  unfold State.beginRound
  split <;> rfl

@[simp] theorem State.account_linkHeard : s.linkHeard.account = s.account := by
  obtain ⟨_, _, _, h⟩ := s.linkHeard_form
  rw [h]
  rfl

@[simp] theorem State.account_takeFrame (keepWindow : Bool) : (s.takeFrame keepWindow).account = s.account := by
  unfold State.takeFrame
  split
  · exact s.account_linkHeard
  · exact s.account_linkHeard

@[simp] theorem State.account_respond (r : Req) (code : Byte) (reply : Reply) :
    (s.respond r code reply).account = s.account := by
  unfold State.respond
  split <;> rfl

@[simp] theorem State.account_dateChange (old : Date) : (s.dateChange old).account = s.account := by
  rw [State.dateChange_eq]
  split <;> rfl

@[simp] theorem State.account_reportUnset (old : ClockState) : (s.reportUnset old).account = s.account := by
  unfold State.reportUnset
  split <;> simp

/-! ## Doors -/

/-- A door that keeps its settings and its list. -/
theorem State.account_modifyDoor {k : DoorNo} {f : DoorChannel → DoorChannel}
    (h : (f (s.door k)).claims = (s.door k).claims) : (s.modifyDoor k f).account = s.account := by
  refine State.account_eq_iff.mpr ⟨rfl, fun j => ?_, rfl, rfl⟩
  obtain ⟨hsettings, hlist⟩ := Prod.mk.inj h
  rw [State.door_modifyDoor]
  split
  next hj => exact hj ▸ ⟨hsettings, hlist⟩
  next => exact ⟨rfl, rfl⟩

end

section
variable (d : DoorChannel) (now : Nat)

@[simp] theorem DoorChannel.claims_settleReleased : d.settleReleased.claims = d.claims := by
  unfold DoorChannel.settleReleased
  split <;> rfl

@[simp] theorem DoorChannel.claims_requestRelease (n : Nat) : (d.requestRelease now n).2.claims = d.claims := by
  unfold DoorChannel.requestRelease
  split
  · rfl
  · split <;> rfl
  · split <;> rfl
  · rfl
  · rfl
  · rfl

@[simp] theorem DoorChannel.claims_restartRelease : (d.restartRelease now).claims = d.claims := by
  unfold DoorChannel.restartRelease
  split <;> rfl

@[simp] theorem DoorChannel.claims_releaseExpired : d.releaseExpired.claims = d.claims :=
  d.endRelease.claims_settleReleased

@[simp] theorem DoorChannel.claims_egressExpired : d.egressExpired.claims = d.claims :=
  ({ d with egress := none } : DoorChannel).claims_settleReleased

@[simp] theorem DoorChannel.claims_pressed : (d.pressed now).claims = d.claims := by
  unfold DoorChannel.pressed
  dsimp only
  split <;> rfl

@[simp] theorem DoorChannel.claims_openedAuthorised : (d.openedAuthorised now).claims = d.claims := by
  unfold DoorChannel.openedAuthorised
  dsimp only
  split <;> rfl

@[simp] theorem DoorChannel.claims_closed : d.closed.claims = d.claims := by
  unfold DoorChannel.closed
  split <;> rfl

@[simp] theorem DoorChannel.claims_allowanceExpired : d.allowanceExpired.claims = d.claims := by
  unfold DoorChannel.allowanceExpired
  split <;> rfl

@[simp] theorem DoorChannel.claims_settle (level : Level) : (d.settle level now).claims = d.claims := by
  unfold DoorChannel.settle
  dsimp only
  split <;> rfl

@[simp] theorem DoorChannel.claims_lockDown : d.lockDown.claims = d.claims := by
  unfold DoorChannel.lockDown
  split
  · rfl
  · exact d.endRelease.claims_settleReleased

@[simp] theorem DoorChannel.claims_cancelIfEmpty : d.cancelIfEmpty.claims = d.claims := by
  unfold DoorChannel.cancelIfEmpty
  split
  · exact d.endRelease.claims_settleReleased
  · rfl

/-- Going out of service empties a list that was handed over before (R124). -/
theorem DoorChannel.claims_park (h : d.provisional = []) : d.park.claims = d.claims := by
  simp [DoorChannel.claims, DoorChannel.park, h]

theorem DoorChannel.claims_stopAll (h : d.provisional = []) : d.stopAll.claims = d.claims := d.claims_park h

end

section
variable (s : State) (k : DoorNo)

@[simp] theorem State.account_requestRelease (n : Nat) : (s.requestRelease k n).2.account = s.account :=
  s.account_modifyDoor (f := fun d => (d.requestRelease s.now n).2) (by simp)

@[simp] theorem State.account_settleDoor : (s.settleDoor k).account = s.account :=
  s.account_modifyDoor (by simp)

@[simp] theorem State.account_settleServing : (s.settleServing k).account = s.account := by
  unfold State.settleServing
  split <;> simp

@[simp] theorem State.account_doorCloses : (s.doorCloses k).account = s.account := by
  rw [State.doorCloses, State.account_submitAll]
  exact s.account_modifyDoor (by simp)

@[simp] theorem State.account_rexPressed : (s.rexPressed k).account = s.account := by
  have pressed : (s.modifyDoor k fun d => d.pressed s.now).account = s.account := s.account_modifyDoor (by simp)
  unfold State.rexPressed
  dsimp only
  split
  · rfl
  · split
    · rw [State.account_requestRelease, pressed]
    · exact pressed

theorem State.account_stopDoor (h : (s.door k).provisional = []) : (s.stopDoor k).account = s.account := by
  rw [State.stopDoor, State.account_submitAll]
  exact s.account_modifyDoor (DoorChannel.claims_stopAll _ h)

end

/-- Stopping the doors empties lists that were handed over before (R142). -/
theorem State.account_stopDoors {s : State} (h : ∀ k, (s.door k).provisional = []) :
    s.stopDoors.account = s.account := by
  refine foldl_keeps (P := fun t => t.account = s.account) (fun t k ht => ?_) sixteen s rfl
  have hlist := (State.account_eq_iff.mp ht).2.1 k
  rw [t.account_stopDoor k (hlist.2.trans (h k)), ht]

end Sys2Proof.Machine

/-! # Removals, confirmations and marks keep the account sound (O34) -/

namespace Sys2Proof.Machine

section
variable {tended paired capped : Prop} {s : State}

/-! ## Removals (R96 to R98, R103, R106 to R108) -/

/-- Removals that concern no room that must be checked. -/
theorem State.Sound.remove_provisional {t : State} {gone : Credential → Bool} (h : s.Sound tended paired capped)
    (ht : s.Removes t gone)
    (hgone : ∀ r, ∀ e ∈ (s.room r).entries, gone e.credential = true → e.state = .provisional) (l : List RoomNo) :
    (t.superviseAll l).Sound tended paired capped :=
  h.remove ht fun q _ e he hstate => by
    by_contra hne
    rw [hgone q e he (Bool.not_eq_false _ ▸ hne)] at hstate
    cases hstate

theorem State.Sound.dropReferences (k : DoorNo) (h : s.Sound tended paired capped) :
    (s.dropReferences k).Sound tended paired capped := by
  rw [State.dropReferences_eq]
  refine h.remove_provisional (h.tidy.drop_removes k) (fun r e he hgone => ?_) _
  rw [h.tidy.contains_provisional he] at hgone
  simp_all

/-- A door that has handed over its list names no entry any more, and no door names a new one (R97). -/
theorem State.Sound.provisional_dropReferences (h : s.Sound tended paired capped) (k j : DoorNo)
    (hj : j = k ∨ (s.door j).provisional = []) : ((s.dropReferences k).door j).provisional = [] := by
  rw [State.dropReferences_eq, State.door_superviseAll, (h.tidy.drop_removes k).door]
  rcases hj with rfl | hj
  · exact List.filter_eq_nil_iff.mpr fun c hc => by simp [hc]
  · simp [hj]

theorem State.Sound.clearEntry_supervise {r : RoomNo} {e : Entry} (h : s.Sound tended paired capped)
    (he : e ∈ (s.room r).entries) : ((s.clearEntry r e).supervise r).Sound tended paired capped := by
  refine h.remove (l := [r]) (h.tidy.clearEntry_removes he) fun q hq y hy _ => ?_
  by_contra hne
  have hc : y.credential = e.credential := by simpa using hne
  exact hq (by simp [(h.tidy.1.once he hy hc).1])

theorem State.tidy.clear_removes (h : s.tidy) (r : RoomNo) :
    s.Removes ((s.room r).entries.foldl (State.clearEntry r) s)
      fun c => (s.room r).entries.any fun e => e.credential == c := by
  obtain ⟨_, _, _, _, _, hform⟩ := State.foldl_clearEntry_form r (s.room r).entries s
  refine ⟨fun q => ?_, fun k => ?_, by rw [hform], by rw [hform]⟩
  · rw [State.room_foldl_clearEntry]
    have hfilter : (s.room q).entries.filter (fun y =>
          !(decide (q = r) && (s.room r).entries.any fun e => e.credential == y.credential)) =
        (s.room q).entries.filter fun y => !(s.room r).entries.any fun e => e.credential == y.credential := by
      refine List.filter_congr fun y hy => ?_
      by_cases hq : q = r
      · simp [hq]
      · have hnone : (s.room r).entries.any (fun e => e.credential == y.credential) = false :=
          List.any_eq_false.mpr fun e he hc => hq (h.1.once he hy (beq_iff_eq.mp hc).symm).1
        simp [hnone]
    rw [hfilter]
  · rw [State.door_foldl_clearEntry]
    have hfilter : (s.door k).provisional.filter (fun c => !(s.room r).entries.any fun e =>
          e.credential == c && e.state == .provisional && e.door == k) =
        (s.door k).provisional.filter fun c => !(s.room r).entries.any fun e => e.credential == c := by
      refine List.filter_congr fun c hc => congrArg (!·) (Bool.eq_iff_iff.mpr ?_)
      simp only [List.any_eq_true, Bool.and_eq_true, beq_iff_eq]
      refine exists_congr fun e => and_congr_right fun he => ⟨fun hwaits => hwaits.1.1, fun heq => ?_⟩
      obtain ⟨hstate, hdoor⟩ := (h.mem_provisional_iff he k).mp (heq ▸ hc)
      exact ⟨⟨heq, hstate⟩, hdoor⟩
    rw [hfilter]

theorem State.Sound.clearRoom (r : RoomNo) (h : s.Sound tended paired capped) :
    (((s.room r).entries.foldl (State.clearEntry r) s).supervise r).Sound tended paired capped := by
  refine h.remove (l := [r]) (h.tidy.clear_removes r) fun q hq y hy _ => ?_
  refine List.any_eq_false.mpr fun e he hc => hq ?_
  simp [(h.tidy.1.once he hy (beq_iff_eq.mp hc).symm).1]

theorem State.Sound.exitRemoval (k : DoorNo) (a : ReaderNo) (c : Credential) (h : s.Sound tended paired capped) :
    (s.exitRemoval k a c).Sound tended paired capped := by
  unfold State.exitRemoval
  dsimp only
  split
  next e hfound =>
    have he : e ∈ (s.room (s.roomOf k)).entries := List.mem_of_find?_eq_some hfound
    have hremoves : s.Removes ((s.dropEntry (s.roomOf k) e).submit
        { removalReport .exit (s.roomOf k) e with reader := some a }) fun c => c == e.credential :=
      (h.tidy.dropEntry_removes he).congr (by simp) (by simp) (by simp) (by simp)
    refine h.remove (l := [s.roomOf k]) hremoves fun q hq y hy _ => ?_
    by_contra hne
    exact hq (by simp [(h.tidy.1.once he hy (by simpa using hne)).1])
  next => exact h.frame (by simp)

end

end Sys2Proof.Machine

namespace Sys2Proof.Machine

/-! ## Confirmations (R95) -/

/-- A room is as unescorted as it was when its entries keep their states and roles (R86). -/
theorem Room.isUnescorted_map {x : Room} {f : Entry → Entry}
    (h : ∀ e ∈ x.entries, (f e).state = e.state ∧ (f e).role = e.role) :
    ({ x with entries := x.entries.map f } : Room).isUnescorted = x.isUnescorted := by
  have hany (role : Role) : (x.entries.map f).any (Entry.confirmedAs role) =
      x.entries.any (Entry.confirmedAs role) := by
    rw [List.any_map, Bool.eq_iff_iff, List.any_eq_true, List.any_eq_true]
    refine exists_congr fun e => and_congr_right fun he => ?_
    obtain ⟨hstate, hrole⟩ := h e he
    rw [Function.comp_apply, Entry.confirmedAs, Entry.confirmedAs, hstate, hrole]
  rw [Room.isUnescorted, Room.isUnescorted, hany, hany]

/-- The rooms of the entries that wait at a door are those that its references lead to (R94). -/
theorem State.tidy.mem_referencedRooms {s : State} (h : s.tidy) {r : RoomNo} {e : Entry}
    (he : e ∈ (s.room r).entries) (hstate : e.state = .provisional) : r ∈ s.referencedRooms e.door := by
  refine List.mem_filterMap.mpr ⟨e.credential, (h.mem_provisional_iff he e.door).mpr ⟨hstate, rfl⟩, ?_⟩
  rw [h.1.referenced_of_mem he hstate]
  rfl

section
variable {tended paired capped : Prop} {s : State}

theorem State.Sound.confirmReferences (k : DoorNo) (h : s.Sound tended paired capped) :
    (s.confirmReferences k).Sound tended paired capped := by
  have hconfirms := h.tidy.confirms k
  rw [State.confirmReferences_eq]
  refine h.recast hconfirms (hconfirms.tidy h.tidy (fun e _ => ?_) fun e he j => ?_) fun q hq => ?_
  · split <;> rfl
  · by_cases hwaits : e.state = .provisional ∧ e.door = k
    · rw [if_pos hwaits, bne_iff_ne]
      refine ⟨fun hnew => ?_, fun hnew => absurd (hnew.2.1.symm.trans hwaits.2) hnew.2.2⟩
      exact nomatch hnew.2.1
    · simp only [if_neg hwaits, true_and, bne_iff_ne]
      refine and_congr_right fun hstate => ⟨fun hdoor => ⟨hdoor, ?_⟩, fun hnew => hnew.1⟩
      rintro rfl
      exact hwaits ⟨hstate, hdoor⟩
  · rw [hconfirms.room, List.filter_true]
    refine Room.isUnescorted_map fun e he => ?_
    have hstays : ¬(e.state = .provisional ∧ e.door = k) := fun ⟨hstate, hdoor⟩ =>
      hq (hdoor ▸ h.tidy.mem_referencedRooms he hstate)
    rw [if_neg hstays]
    exact ⟨rfl, rfl⟩

/-! ## Entries that stay where they are -/

/-- What a reference and a count of the inside see of an entry. -/
def Entry.stands (e : Entry) : Credential × DoorNo × EntryState := (e.credential, e.door, e.state)

/-- An account stays tidy when its entries and lists stand as they did. -/
theorem State.tidy_of_stands {t : State} (h : s.tidy)
    (hrooms : ∀ q, (t.room q).entries.map Entry.stands = (s.room q).entries.map Entry.stands)
    (hlists : ∀ k, (t.door k).provisional = (s.door k).provisional) : t.tidy := by
  have hall : t.allEntries.map Entry.stands = s.allEntries.map Entry.stands := by
    simp only [State.allEntries, List.map_flatMap, hrooms]
  have hmem (u : State) (c : Credential) (k : DoorNo) :
      (∃ e ∈ u.allEntries, e.credential = c ∧ e.state = .provisional ∧ e.door = k) ↔
        (c, k, EntryState.provisional) ∈ u.allEntries.map Entry.stands := by
    simp [Entry.stands, List.mem_map, and_comm]
  refine ⟨?_, fun k => ?_⟩
  · have hcredential : Entry.credential = Prod.fst ∘ Entry.stands := rfl
    rw [State.distinct, hcredential, ← List.map_map, hall, List.map_map]
    exact h.1
  · rw [hlists]
    refine ⟨(h.2 k).1, fun c => ?_⟩
    rw [(h.2 k).2, hmem, hmem, hall]

/-- Entries marked where they stand (R101, R104). -/
theorem State.Sound.mark {t : State} (h : s.Sound tended paired capped) {f : RoomNo → Entry → Entry}
    (hrooms : ∀ q, t.room q = { s.room q with entries := (s.room q).entries.map (f q) })
    (hf : ∀ q e, (f q e).stands = e.stands ∧ (f q e).role = e.role) (hdoors : t.doors = s.doors)
    (hpairings : t.pairings = s.pairings) (hrun : t.run = s.run) : t.Sound tended paired capped := by
  have hdoor := State.door_congr hdoors
  have htidy : t.tidy := State.tidy_of_stands h.tidy
    (fun q => by
      rw [hrooms, List.map_map]
      exact List.map_congr_left fun e _ => (hf q e).1)
    fun k => by rw [hdoor]
  refine h.check (l := []) htidy (fun q => by rw [hrooms]) (fun q => by simp [hrooms]) (fun k => by rw [hdoor])
    hpairings hrun fun q _ => ⟨by rw [hrooms], ?_⟩
  rw [hrooms]
  exact Room.isUnescorted_map fun e _ => ⟨congrArg (fun x => x.2.2) (hf q e).1, (hf q e).2⟩

theorem Entry.checked_stands (grace a : Nat) (e : Entry) :
    (e.checked grace a).stands = e.stands ∧ (e.checked grace a).role = e.role := by
  unfold Entry.checked
  split <;> exact ⟨rfl, rfl⟩

theorem State.Sound.minuteSignal (reading : Clock) (h : s.Sound tended paired capped) :
    (s.minuteSignal reading).Sound tended paired capped := by
  cases hset : reading.state with
  | unset => rwa [s.minuteSignal_of_unset hset]
  | set =>
    obtain ⟨rooms, hrooms⟩ := s.checkRooms_form reading.absoluteMinute sixteen
    have hchecked : (s.checkRooms reading.absoluteMinute sixteen).Sound tended paired capped := by
      refine h.mark (f := fun q => Entry.checked (s.room q).settings.grace reading.absoluteMinute) (fun q => ?_)
        (fun q => Entry.checked_stands _ _) (by rw [hrooms]) (by rw [hrooms]) (by rw [hrooms])
      rw [State.room_checkRooms _ nodup_sixteen, if_pos (mem_sixteen q)]
      rfl
    rw [s.minuteSignal_of_set hset]
    exact hchecked.frame (by simp)

theorem State.Sound.supervise (r : RoomNo) (h : s.Sound tended paired capped) :
    (s.supervise r).Sound tended paired capped :=
  h.remove (l := [r]) s.removes_none fun _ _ _ _ _ => rfl

/-- A revocation removes a PROVISIONAL entry and flags a CONFIRMED one (R103, R104). -/
theorem State.Sound.revokeEntry (c : Credential) (h : s.Sound tended paired capped) :
    (s.revokeEntry c).2.Sound tended paired capped := by
  unfold State.revokeEntry
  split
  · exact h
  next r e hfound =>
    obtain ⟨he, hc⟩ := State.of_findEntry hfound
    split
    next hstate =>
      have hremoved : (s.notEntered r e).Sound tended paired capped := by
        refine h.remove_provisional (h.tidy.notEntered_removes he) (fun q y hy hyc => ?_) []
        rwa [(h.tidy.1.once he hy (by simpa using hyc)).2]
      exact (hremoved.frame (State.account_modifyDoor _ (by simp))).supervise r
    next hstate =>
      split
      · exact h
      · refine State.Sound.frame (s := s.changeEntry r c fun x => { x with revokedInside := true }) ?_ (by simp)
        refine h.mark (f := fun q y => if q = r ∧ y.credential = c then { y with revokedInside := true } else y)
          (s.room_changeEntry r c _) (fun q y => ?_) rfl rfl rfl
        split <;> exact ⟨rfl, rfl⟩

/-! ## Openings (R95, R131, R134) -/

theorem State.Sound.openAuthorised (k : DoorNo) (h : s.Sound tended paired capped) :
    (s.openAuthorised k).Sound tended paired capped :=
  (h.confirmReferences k).frame (State.account_modifyDoor _ (by simp))

theorem State.Sound.doorOpens (k : DoorNo) (h : s.Sound tended paired capped) :
    (s.doorOpens k).Sound tended paired capped := by
  unfold State.doorOpens
  split
  · refine h.frame ?_
    rw [State.account_submit]
    exact State.account_modifyDoor _ rfl
  · exact h.openAuthorised k
  · exact h
  · exact h
  · exact h
  · exact h

theorem State.Sound.firstLevel (k : DoorNo) (level : Level) (h : s.Sound tended paired capped) :
    (s.firstLevel k level).Sound tended paired capped := by
  have hlist : (if (s.door k).release.isSome then s.confirmReferences k else s).Sound tended paired capped := by
    split
    · exact h.confirmReferences k
    · exact h
  unfold State.firstLevel
  split
  · exact hlist.frame (State.account_modifyDoor _ (by simp))
  · exact hlist.frame (State.account_modifyDoor _ (by simp))
  · exact h

/-! ## Inputs (chapter 8) -/

theorem State.Sound.acceptLevel (i : InputNo) (level : Level) (h : s.Sound tended paired capped) :
    (s.acceptLevel i level).Sound tended paired capped := by
  have hmoved : (s.modifyInput i fun x => { x with level := level }).Sound tended paired capped := h.frame rfl
  unfold State.acceptLevel State.handOver
  dsimp only
  split
  · split
    · exact hmoved.doorOpens _
    · exact hmoved.frame (State.account_doorCloses _ _)
    · exact hmoved.firstLevel _ _
    · exact hmoved.firstLevel _ _
    · exact hmoved
  · split
    · exact hmoved.frame (State.account_rexPressed _ _)
    · exact hmoved

theorem State.Sound.startSteady (i : InputNo) (h : s.Sound tended paired capped) :
    (s.startSteady i).Sound tended paired capped := by
  unfold State.startSteady
  split
  · exact h.frame rfl
  · exact State.Sound.acceptLevel i _ (h.frame rfl)

theorem State.Sound.contactMoved (i : InputNo) (h : s.Sound tended paired capped) :
    (s.contactMoved i).Sound tended paired capped := by
  unfold State.contactMoved
  split
  · exact h.frame rfl
  · exact h.startSteady i

theorem State.Sound.scanInput (values : Vector (BitVec 10) 32) (i : InputNo) (h : s.Sound tended paired capped) :
    (s.scanInput values i).Sound tended paired capped := by
  unfold State.scanInput
  split
  · exact h
  · dsimp only
    split
    · unfold State.acceptClass
      dsimp only
      split
      · exact State.Sound.acceptLevel i _ (h.frame (by simp))
      · exact h.frame (by simp)
    · exact h.frame rfl

theorem State.Sound.beginInput (i : InputNo) (h : s.Sound tended paired capped) :
    (s.beginInput i).Sound tended paired capped := by
  unfold State.beginInput
  split
  · exact h.startSteady i
  · exact h

theorem State.Sound.beginInputs (h : s.Sound tended paired capped) : s.beginInputs.Sound tended paired capped :=
  foldl_keeps (fun _ i h => State.Sound.beginInput i h) allInputs s h

theorem State.Sound.configureInput (i : InputNo) (mode : InputMode) (polarity : Polarity)
    (h : s.Sound tended paired capped) : (s.configureInput i mode polarity).Sound tended paired capped := by
  unfold State.configureInput
  dsimp only
  split
  · exact h
  · exact State.Sound.beginInput i (h.frame (by simp))

end

theorem State.account_resetInputs (s : State) : s.resetInputs.account = s.account :=
  foldl_keeps (P := fun t => t.account = s.account)
    (fun t i ht => by rw [State.resetInput, State.account_submitAll, State.account_modifyInput, ht]) allInputs s rfl

end Sys2Proof.Machine

/-! # The pairing table stays well formed (R70, R71, R76, R83; O34) -/

namespace Sys2Proof.Machine

/-! ## Records that close or lose members -/

section
variable {s t : State}

theorem State.openPairings_mono (h : ∀ k p', t.pairing k = some p' → ∃ p, s.pairing k = some p) :
    t.openPairings ≤ s.openPairings := by
  refine List.countP_mono_left fun k _ hk => ?_
  obtain ⟨p', hp'⟩ := Option.isSome_iff_exists.mp hk
  obtain ⟨p, hp⟩ := h k p' hp'
  simp [hp]

/-- Records that close, or keep some of their members, leave the pairing table well formed. -/
theorem State.pairingsWf_of_sublist (h : s.pairingsWf) (hrun : t.run = .stopped → s.run = .stopped)
    (hrecords : ∀ k p', t.pairing k = some p' → ∃ p, s.pairing k = some p ∧ p'.wf ∧ p'.members.Sublist p.members) :
    t.pairingsWf := by
  obtain ⟨hopen, -, hnodup, hstopped⟩ := h
  have hless : t.openPairings ≤ s.openPairings := State.openPairings_mono fun k p' hp' =>
    have ⟨p, hp, _⟩ := hrecords k p' hp'
    ⟨p, hp⟩
  refine ⟨hless.trans hopen, fun k p' hp' => ?_, ?_, fun hr k => ?_⟩
  · obtain ⟨-, -, hwf, -⟩ := hrecords k p' hp'
    exact hwf
  · rw [State.waiting_eq] at hnodup ⊢
    refine hnodup.sublist (List.Sublist.flatMap_right _ fun k _ => List.Sublist.map _ ?_)
    cases hk : t.pairing k with
    | none => simp [State.membersAt_of_none hk]
    | some p' =>
      obtain ⟨p, hp, -, hmembers⟩ := hrecords k p' hk
      rwa [State.membersAt_of_pairing hk, State.membersAt_of_pairing hp]
  · cases hk : t.pairing k with
    | none => rfl
    | some p' =>
      obtain ⟨p, hp, -⟩ := hrecords k p' hk
      exact absurd ((hstopped (hrun hr) k).symm.trans hp) nofun

theorem State.pairingsWf_of_none (h : ∀ k, s.pairing k = none) : s.pairingsWf := by
  refine ⟨?_, fun k p hp => ?_, ?_, fun _ => h⟩
  · simp [State.openPairings, h]
  · exact absurd ((h k).symm.trans hp) nofun
  · rw [State.waiting, List.flatMap_eq_nil_iff.mpr fun k _ => by simp [h k]]
    exact List.nodup_nil

/-- What stays of a record when a credential leaves it. -/
theorem PairingRecord.of_without {p p' : PairingRecord} {c : Credential} (h : p.without c = some p') (hwf : p.wf) :
    p'.wf ∧ p'.members.Sublist p.members ∧ ∀ m ∈ p'.members, m.credential ≠ c := by
  rw [PairingRecord.without_eq] at h
  obtain ⟨hleft, hsome⟩ := Option.ite_none_left_eq_some.mp h
  obtain rfl := Option.some.inj hsome
  obtain ⟨escort, contractors, opened, deadline⟩ := p
  refine ⟨?_, ?_, ?_⟩
  · cases escort with
    | none =>
      obtain ⟨-, hlength⟩ := hwf
      exact ⟨by simpa using hleft, (List.length_filter_le _ _).trans hlength⟩
    | some e =>
      obtain rfl : contractors = [] := hwf
      have hkept : (some e).filter (fun m => m.credential ≠ c) ≠ none := by simpa using hleft
      by_cases he : e.credential = c
      · simp [he] at hkept
      · have hescort : (some e).filter (fun m => m.credential ≠ c) = some e := by simp [he]
        rw [hescort]
        rfl
  · refine List.Sublist.append ?_ List.filter_sublist
    cases escort with
    | none => simp
    | some e => by_cases he : e.credential = c <;> simp [he]
  · intro m hm
    rcases List.mem_append.mp hm with hm | hm
    · exact of_decide_eq_true (Option.filter_eq_some_iff.mp (Option.mem_toList.mp hm)).2
    · exact of_decide_eq_true (List.mem_filter.mp hm).2

theorem State.withdrawMember_run (s : State) (c : Credential) : (s.withdrawMember c).run = s.run := by
  obtain ⟨_, _, _, _, h⟩ := s.withdrawMember_form c
  rw [h]

/-- What stays of the records when a credential leaves the table (R71). -/
theorem State.of_pairingWithout (h : s.pairingsWf) {c : Credential} {k : DoorNo} {p' : PairingRecord}
    (hp' : s.pairingWithout c k = some p') :
    ∃ p, s.pairing k = some p ∧ p'.wf ∧ p'.members.Sublist p.members ∧ ∀ m ∈ p'.members, m.credential ≠ c := by
  obtain ⟨-, hrecords, -, -⟩ := h
  rw [State.pairingWithout_eq] at hp'
  obtain ⟨p, hp, hwithout⟩ := Option.bind_eq_some_iff.mp hp'
  exact ⟨p, hp, PairingRecord.of_without hwithout (hrecords k p hp)⟩

theorem State.pairingsWf_withdrawMember (h : s.pairingsWf) (c : Credential) : (s.withdrawMember c).pairingsWf := by
  refine State.pairingsWf_of_sublist h (fun hrun => s.withdrawMember_run c ▸ hrun) fun k p' hp' => ?_
  rw [State.pairing_withdrawMember h] at hp'
  obtain ⟨p, hp, hwf, hmembers, -⟩ := State.of_pairingWithout h hp'
  exact ⟨p, hp, hwf, hmembers⟩

theorem State.openPairings_withdrawMember_le (h : s.pairingsWf) (c : Credential) :
    (s.withdrawMember c).openPairings ≤ s.openPairings :=
  State.openPairings_mono fun k p' hp' => by
    rw [State.pairing_withdrawMember h] at hp'
    obtain ⟨p, hp, -⟩ := State.of_pairingWithout h hp'
    exact ⟨p, hp⟩

/-- A door that the credential does not wait at keeps its record (R71). -/
theorem State.pairing_withdrawMember_of_stranger (h : s.pairingsWf) {c : Credential} {k : DoorNo}
    (hstranger : ∀ m ∈ s.membersAt k, m.credential ≠ c) : (s.withdrawMember c).pairing k = s.pairing k := by
  rw [State.pairing_withdrawMember h, State.pairingWithout_of_not_waiting h hstranger]

/-- A credential that was withdrawn waits nowhere (R71). -/
theorem State.not_waiting_withdrawMember (h : s.pairingsWf) (c : Credential) (k : DoorNo) :
    ∀ m ∈ (s.withdrawMember c).membersAt k, m.credential ≠ c := by
  cases hk : (s.withdrawMember c).pairing k with
  | none => simp [State.membersAt_of_none hk]
  | some p' =>
    rw [State.membersAt_of_pairing hk]
    rw [State.pairing_withdrawMember h] at hk
    obtain ⟨-, -, -, -, hgone⟩ := State.of_pairingWithout h hk
    exact hgone

/-! ## Records that open or grow -/

theorem nodup_flatMap_sixteen {β : Type} {f : Fin 16 → List β} (hnodup : ∀ k, (f k).Nodup)
    (honce : ∀ i j b, b ∈ f i → b ∈ f j → i = j) : (sixteen.flatMap f).Nodup :=
  List.nodup_flatMap.mpr ⟨fun k _ => hnodup k,
    nodup_sixteen.pairwise_of_forall_ne fun i _ j _ hne b hi hj => hne (honce i j b hi hj)⟩

theorem countP_or_le {α : Type} (p q : α → Bool) (l : List α) :
    l.countP (fun x => p x || q x) ≤ l.countP p + l.countP q := by
  induction l with
  | nil => rfl
  | cons x l ih =>
    simp only [List.countP_cons]
    cases p x <;> cases q x <;> simp <;> omega

theorem State.openPairings_setPairing (s : State) (k : DoorNo) (p : PairingRecord) :
    (s.setPairing k (some p)).openPairings ≤ s.openPairings + if s.pairing k = none then 1 else 0 := by
  have hone : sixteen.countP (fun j => j == k) = 1 := List.count_eq_one_of_mem nodup_sixteen (mem_sixteen k)
  rw [State.openPairings, State.openPairings]
  split
  · refine le_trans (List.countP_mono_left (q := fun j => (s.pairing j).isSome || j == k) fun j _ hj => ?_) ?_
    · by_cases hjk : j = k
      · simp [hjk]
      · rw [State.pairing_setPairing, if_neg (Ne.symm hjk)] at hj
        simp [hj]
    · exact (countP_or_le _ _ sixteen).trans (by rw [hone])
  next hsome =>
    rw [Nat.add_zero]
    refine List.countP_mono_left fun j _ hj => ?_
    by_cases hjk : j = k
    · rw [hjk]
      exact Option.isSome_iff_ne_none.mpr hsome
    · simpa [State.pairing_setPairing, Ne.symm hjk] using hj

/-- A record that takes one more member, who waits nowhere, leaves the pairing table well formed (R70 to R74). -/
theorem State.pairingsWf_setPairing (h : s.pairingsWf) (hrun : s.run = .running) {k : DoorNo} {p : PairingRecord}
    (hp : p.wf) (hopen : s.pairing k = none → s.openPairings < 8) {m : Member}
    (hnew : ∀ j, ∀ y ∈ s.membersAt j, y.credential ≠ m.credential) (hmembers : p.members.Sublist (s.membersAt k ++ [m])) :
    (s.setPairing k (some p)).pairingsWf := by
  obtain ⟨hcount, hrecords, hnodup, -⟩ := h
  have hmembersAt (j : DoorNo) : (s.setPairing k (some p)).membersAt j = if j = k then p.members else s.membersAt j := by
    by_cases hj : j = k
    · subst hj
      simp [State.membersAt, State.pairing_setPairing]
    · simp [State.membersAt, State.pairing_setPairing, hj, Ne.symm hj]
  have hwho {j : DoorNo} {c : Credential} (hc : c ∈ ((s.setPairing k (some p)).membersAt j).map Member.credential) :
      c ∈ (s.membersAt j).map Member.credential ∨ c = m.credential ∧ j = k := by
    rw [hmembersAt] at hc
    split at hc
    next hj =>
      have := (hmembers.map Member.credential).subset hc
      simpa [hj] using this
    next => exact .inl hc
  rw [State.waiting_eq] at hnodup
  refine ⟨?_, fun j p' hp' => ?_, ?_, fun hr => ?_⟩
  · refine (s.openPairings_setPairing k p).trans ?_
    split
    next hnone => exact hopen hnone
    next => exact hcount
  · rw [State.pairing_setPairing] at hp'
    split at hp'
    · exact Option.some.inj hp' ▸ hp
    · exact hrecords j p' hp'
  · rw [State.waiting_eq]
    refine nodup_flatMap_sixteen (fun j => ?_) fun i j c hi hj => ?_
    · have hj := (List.nodup_flatMap.mp hnodup).1 j (mem_sixteen j)
      rw [hmembersAt]
      split
      next hjk =>
        subst hjk
        refine List.Nodup.sublist (hmembers.map Member.credential) ?_
        rw [List.map_append, List.nodup_append_comm]
        exact List.nodup_cons.mpr ⟨by simpa using hnew j, hj⟩
      next => exact hj
    · have hstranger {j : DoorNo} (hj : m.credential ∈ (s.membersAt j).map Member.credential) : False := by
        obtain ⟨y, hy, hc⟩ := List.mem_map.mp hj
        exact hnew j y hy hc
      rcases hwho hi with hi' | ⟨hc, hik⟩
      · rcases hwho hj with hj' | ⟨hc, -⟩
        · exact eq_of_mem_of_nodup_sixteen hnodup hi' hj'
        · exact (hstranger (hc ▸ hi')).elim
      · rcases hwho hj with hj' | ⟨-, hjk⟩
        · exact (hstranger (hc ▸ hj')).elim
        · exact hik.trans hjk.symm
  · exact absurd (hrun.symm.trans hr) nofun

end

end Sys2Proof.Machine

namespace Sys2Proof.Machine

/-! ## Pairing records and the account (O34) -/

section
variable {tended paired capped : Prop} {s t : State}

/-- A change of pairing records alone, in a run state that is the same or STOPPED. -/
theorem State.Sound.repair (h : s.Sound tended paired capped) (hrooms : t.rooms = s.rooms)
    (hdoors : ∀ k, (t.door k).claims = (s.door k).claims) (hrun : t.run = .running → s.run = .running)
    (hpairings : s.pairingsWf → t.pairingsWf) : t.Sound tended paired capped := by
  have hclaims (k : DoorNo) := Prod.mk.inj (hdoors k)
  refine ⟨(State.tidy_congr hrooms fun k => (hclaims k).2).mpr h.tidy, fun hw => ?_, fun hp => ?_, fun hp hc => ?_⟩
  · simpa only [State.supervisionWf, State.room_congr hrooms] using h.supervision hw
  · obtain ⟨hwf, htotal⟩ := h.pairings hp
    exact ⟨hpairings hwf, (State.totalEntries_congr hrooms).le.trans htotal⟩
  · obtain ⟨hcaps, hused⟩ := h.caps hp hc
    refine ⟨fun q => State.room_congr hrooms q ▸ hcaps q, fun hr k hk => ?_⟩
    rw [(hclaims k).1] at hk
    rw [State.roomOf_congr_settings (fun j => (hclaims j).1), State.room_congr hrooms]
    exact hused (hrun hr) k hk

theorem State.Sound.closePairing (k : DoorNo) (h : s.Sound tended paired capped) :
    (s.setPairing k none).Sound tended paired capped := by
  refine h.repair rfl (fun _ => rfl) id fun hwf => State.pairingsWf_of_sublist hwf id fun j p' hp' => ?_
  rw [State.pairing_setPairing] at hp'
  split at hp'
  · cases hp'
  · exact ⟨p', hp', hwf.2.1 j p' hp', List.Sublist.refl _⟩

theorem State.Sound.denyMembers (k : DoorNo) (reason : Reason) (h : s.Sound tended paired capped) :
    (s.denyMembers k reason).Sound tended paired capped := by
  unfold State.denyMembers
  split
  · exact h
  · exact State.Sound.closePairing k (h.frame (by simp))

theorem State.Sound.cancelPairing (k : DoorNo) (h : s.Sound tended paired capped) :
    (s.cancelPairing k).Sound tended paired capped := by
  unfold State.cancelPairing
  split
  · exact h
  · exact (h.denyMembers k .pairingCancelled).frame (by simp)

theorem State.Sound.denyGroup (x : Arrival) (reason : Reason) (members : List (Credential × Option (Nat × Nat)))
    (h : s.Sound tended paired capped) : (s.denyGroup x reason members).Sound tended paired capped := by
  have hdenied : (s.submitAll (members.map fun m => s.denial x.door (some x.reader) m.1 reason m.2)).Sound
      tended paired capped := h.frame (by simp)
  exact (hdenied.closePairing x.door).frame (by simp [State.denyGroup])

theorem State.Sound.withdrawMember (c : Credential) (h : s.Sound tended paired capped) :
    (s.withdrawMember c).Sound tended paired capped :=
  h.repair (s.withdrawMember_rooms c) (fun k => by rw [State.door_congr (s.withdrawMember_doors c)])
    (fun hrun => s.withdrawMember_run c ▸ hrun) fun hwf => State.pairingsWf_withdrawMember hwf c

/-- A revocation takes the member out of its record as a withdrawal does, with another record (R85). -/
theorem State.account_revokeMember (s : State) (c : Credential) :
    (s.revokeMember c).account = (s.withdrawMember c).account := by
  unfold State.revokeMember State.withdrawMember
  split <;> simp

theorem State.Sound.revokeMember (c : Credential) (h : s.Sound tended paired capped) :
    (s.revokeMember c).Sound tended paired capped :=
  (h.withdrawMember c).frame (s.account_revokeMember c)

/-- An arrival that enters a record, from which it did not wait before (R71 to R74). -/
theorem State.Sound.enterRecord {x : Arrival} {p : PairingRecord} (displaced : Option Member)
    (h : s.Sound tended paired capped) (hrun : s.run = .running) (hp : p.wf)
    (hopen : s.pairing x.door = none → s.openPairings < 8)
    (hstranger : ∀ m ∈ s.membersAt x.door, m.credential ≠ x.credential)
    (hmembers : p.members.Sublist (s.membersAt x.door ++ [x.member])) :
    (s.enterRecord x p displaced).Sound tended paired capped := by
  have hentered : ((s.withdrawMember x.credential).setPairing x.door (some p)).Sound tended paired capped := by
    refine h.repair (s.withdrawMember_rooms _) (fun k => ?_) (fun hr => s.withdrawMember_run _ ▸ hr) fun hwf => ?_
    · exact congrArg DoorChannel.claims (State.door_congr (s.withdrawMember_doors x.credential) k)
    have hkept := State.pairing_withdrawMember_of_stranger hwf hstranger
    have hmembersAt : (s.withdrawMember x.credential).membersAt x.door = s.membersAt x.door := by
      rw [State.membersAt, hkept, State.membersAt]
    exact State.pairingsWf_setPairing (m := x.member) (State.pairingsWf_withdrawMember hwf _)
      ((s.withdrawMember_run _).trans hrun) hp
      (fun hnone => (State.openPairings_withdrawMember_le hwf _).trans_lt (hopen (hkept ▸ hnone)))
      (State.not_waiting_withdrawMember hwf _) (hmembersAt ▸ hmembers)
  refine hentered.frame ?_
  rw [State.enterRecord_eq, State.wait_eq, State.entered]
  simp

end

end Sys2Proof.Machine

/-! # What the grants of a group make of the account (R62, R63, R81, R92, R136)

The grants of a group are applied in turn. What they come to together is said once, for rooms and lists: a member's
entry goes unless it is its own CONFIRMED one in the door's room, which is granted over; every other member's new entry
joins the end of the room, and its reference the end of the door's list. -/

namespace Sys2Proof.Machine

/-! ## The entry that a grant does not keep (R62, R96) -/

/-- The state once a grant at a door has removed the entry of the credential that it does not keep (R62, R96). -/
def State.departed (s : State) (k : DoorNo) (c : Credential) : State :=
  match s.findEntry c with
  | some (r, e) => s.removeOldEntry k r e
  | none => s

/-- What a grant does to the entries and lists: its own CONFIRMED entry granted over, or a new one placed. -/
def State.grantEntry (s : State) (k : DoorNo) (c : Credential) (q : Qualifying) (reading : Clock) (atOnce : Bool) :
    State :=
  if s.holdsConfirmed (s.roomOf k) c then
    s.changeEntry (s.roomOf k) c (Entry.regranted q (s.entitledUntil q.permit reading))
  else (s.departed k c).placeGranted k c q reading atOnce

theorem State.applyGrant_eq (s : State) (k : DoorNo) (a : ReaderNo) (c : Credential) (q : Qualifying) (reading : Clock)
    (atOnce : Bool) :
    s.applyGrant k a c q reading atOnce =
      (s.grantEntry k c q reading atOnce).countGrant k a c q (s.entitledUntil q.permit reading) := by
  unfold State.applyGrant State.grantEntry State.countGrant State.departed
  dsimp only
  split
  · rfl
  · cases s.findEntry c <;> rfl

/-- A removed entry leaves PROVISIONAL, when it leaves the door's own room (R62). -/
theorem State.departed_eq {s : State} {k : DoorNo} {c : Credential} (hkept : s.holdsConfirmed (s.roomOf k) c = false) :
    s.findEntry c = none ∧ s.departed k c = s ∨
      ∃ r, ∃ e ∈ (s.room r).entries, e.credential = c ∧ s.departed k c =
        ((s.dropEntry r e).submit (removalReport (s.departureKind k r) r e)).handBack e := by
  unfold State.departed
  split
  next r e hfound =>
    obtain ⟨he, hc⟩ := State.of_findEntry hfound
    refine .inr ⟨r, e, he, hc, State.removeOldEntry_eq ?_⟩
    rintro rfl
    have hnot : e.state ≠ .confirmed := by simpa [State.holdsConfirmed, hfound] using hkept
    cases hstate : e.state with
    | provisional => rfl
    | confirmed => exact absurd hstate hnot
  next hnone => exact .inl ⟨hnone, rfl⟩

theorem State.departed_schedules {s : State} {k : DoorNo} {c : Credential}
    (hkept : s.holdsConfirmed (s.roomOf k) c = false) : (s.departed k c).schedules = s.schedules := by
  rcases State.departed_eq hkept with ⟨-, hsame⟩ | ⟨r, e, -, -, hgone⟩
  · rw [hsame]
  · simp [hgone]

section
variable {s : State} (h : s.tidy)
include h

theorem State.tidy.holdsConfirmed_iff {room : RoomNo} {c : Credential} :
    s.holdsConfirmed room c = true ↔ ∃ e ∈ (s.room room).entries, e.credential = c ∧ e.state = .confirmed := by
  rw [State.holdsConfirmed_iff]
  simp only [h.1.findEntry_iff, and_assoc]

/-- A credential that is gone has no entry and no reference anywhere. -/
theorem State.tidy.absent {c : Credential} (hnone : s.findEntry c = none) :
    (∀ r, ∀ e ∈ (s.room r).entries, e.credential ≠ c) ∧ ∀ k, c ∉ (s.door k).provisional := by
  have hentries := State.findEntry_eq_none_iff.mp hnone
  refine ⟨hentries, fun k hc => ?_⟩
  obtain ⟨r, e, he, hec, -⟩ := h.exists_of_reference hc
  exact hentries r e he hec

theorem State.tidy.departed_removes {k : DoorNo} {c : Credential} (hkept : s.holdsConfirmed (s.roomOf k) c = false) :
    s.Removes (s.departed k c) fun x => x == c := by
  rcases State.departed_eq hkept with ⟨hnone, hsame⟩ | ⟨r, e, he, rfl, hgone⟩
  · obtain ⟨hentries, hlists⟩ := h.absent hnone
    rw [hsame]
    refine ⟨fun q => ?_, fun j => ?_, rfl, rfl⟩
    · rw [List.filter_eq_self.mpr fun e he => by simpa using hentries q e he]
    · rw [List.filter_eq_self.mpr fun x hx => by simpa using fun heq : x = c => hlists j (heq ▸ hx)]
  · rw [hgone]
    exact (h.dropEntry_removes he).congr (by simp) (by simp) (by simp) (by rw [State.handBack_eq]; simp)

end

theorem State.Removes.findEntry_eq_none {s t : State} {gone : Credential → Bool} (h : s.Removes t gone)
    {c : Credential} (hc : gone c = true) : t.findEntry c = none := by
  refine State.findEntry_eq_none_iff.mpr fun r e he heq => ?_
  rw [h.room] at he
  have := (List.mem_filter.mp he).2
  simp [heq, hc] at this

/-- A new entry of a credential that is inside nowhere joins a tidy account with its reference. -/
theorem State.tidy.placeGranted {s : State} (h : s.tidy) {c : Credential} (hnone : s.findEntry c = none) (k : DoorNo)
    (q : Qualifying) (reading : Clock) (atOnce : Bool) : (s.placeGranted k c q reading atOnce).tidy := by
  obtain ⟨hentries, hlists⟩ := h.absent hnone
  have hroom := s.room_placeGranted k c q reading atOnce
  have hmem (e : Entry) : e ∈ (s.placeGranted k c q reading atOnce).allEntries ↔
      e ∈ s.allEntries ∨ e = s.newEntry k c q reading atOnce := by
    simp only [State.mem_allEntries_iff, hroom, List.mem_append, exists_or]
    refine or_congr_right ⟨fun ⟨r, hr⟩ => ?_, fun he => ⟨s.roomOf k, by simp [he]⟩⟩
    split at hr
    · simpa using hr
    · cases hr
  refine ⟨?_, fun j => ?_⟩
  · have hmap (r : RoomNo) : ((s.placeGranted k c q reading atOnce).room r).entries.map Entry.credential =
        (s.room r).entries.map Entry.credential ++ if r = s.roomOf k then [c] else [] := by
      rw [hroom]
      split <;> simp [State.newEntry]
    have hd := h.1
    rw [State.distinct, State.allEntries, List.map_flatMap] at hd ⊢
    simp only [hmap]
    refine nodup_flatMap_sixteen (fun r => ?_) fun i j b hi hj => ?_
    · refine List.nodup_append.mpr ⟨(List.nodup_flatMap.mp hd).1 r (mem_sixteen r), ?_, ?_⟩
      · split <;> simp
      · intro x hx y hy
        obtain ⟨e, he, rfl⟩ := List.mem_map.mp hx
        split at hy
        · obtain rfl := List.mem_singleton.mp hy
          exact hentries r e he
        · cases hy
    · have hstranger {r : RoomNo} (hr : c ∈ (s.room r).entries.map Entry.credential) : False := by
        obtain ⟨e, he, hc⟩ := List.mem_map.mp hr
        exact hentries r e he hc
      have hwho {r : RoomNo} (hr : b ∈ (if r = s.roomOf k then [c] else [])) : b = c ∧ r = s.roomOf k := by
        split at hr
        next heq => exact ⟨List.mem_singleton.mp hr, heq⟩
        next => cases hr
      rcases List.mem_append.mp hi with hi' | hi' <;> rcases List.mem_append.mp hj with hj' | hj'
      · exact eq_of_mem_of_nodup_sixteen hd hi' hj'
      · exact (hstranger ((hwho hj').1 ▸ hi')).elim
      · exact (hstranger ((hwho hi').1 ▸ hj')).elim
      · exact (hwho hi').2.trans (hwho hj').2.symm
  · have hlist : ((s.placeGranted k c q reading atOnce).door j).provisional =
        (s.door j).provisional ++ if j = k ∧ atOnce = false then [c] else [] := by
      rw [State.door_placeGranted]
      by_cases hj : j = k <;> cases atOnce <;> simp [hj]
    rw [hlist]
    refine ⟨List.nodup_append.mpr ⟨(h.2 j).1, by split <;> simp, fun x hx y hy => ?_⟩, fun x => ?_⟩
    · split at hy
      · obtain rfl := List.mem_singleton.mp hy
        rintro rfl
        exact hlists j hx
      · cases hy
    · simp only [hmem, or_and_right, exists_or, exists_eq_left, List.mem_append, (h.2 j).2 x]
      refine or_congr_right ?_
      cases atOnce <;> simp [State.newEntry, eq_comm, and_comm]

end Sys2Proof.Machine

namespace Sys2Proof.Machine

/-! ## What the grants of a group come to -/

/-- Whether a credential is one of a group's. -/
def hasMember (group : List GroupMember) (c : Credential) : Bool := group.any fun m => m.credential == c

/-- Whether a credential holds a CONFIRMED entry in a room, which a grant there keeps (R57, R63). -/
def State.settled (s : State) (room : RoomNo) (c : Credential) : Bool :=
  (s.room room).entries.any fun e => e.credential == c && e.state == .confirmed

/-- Whether the grants of a group at a door of `room` remove an entry of room `r` (R62, R81). -/
def Entry.leaves (group : List GroupMember) (room r : RoomNo) (e : Entry) : Bool :=
  hasMember group e.credential && !(r == room && e.state == .confirmed)

/-- The members of a group that get a new entry (R81). -/
def State.placed (s : State) (room : RoomNo) (group : List GroupMember) : List GroupMember :=
  group.filter fun m => !s.settled room m.credential

/-- An entry that stays, granted over when it is a member's (R63). -/
def State.grantedOver (s : State) (group : List GroupMember) (reading : Clock) (e : Entry) : Entry :=
  match group.find? fun m => m.credential == e.credential with
  | some m => e.regranted m.permit (s.entitledUntil m.permit.permit reading)
  | none => e

/-- In `t` the grants of a group at a door have changed rooms and lists, and nothing else of rooms, doors, pairing
records, schedules and the run state. -/
structure State.Grants (s t : State) (k : DoorNo) (group : List GroupMember) (reading : Clock) (atOnce : Bool) :
    Prop where
  room : ∀ r, t.room r = { s.room r with
    entries := ((s.room r).entries.filter fun e => !e.leaves group (s.roomOf k) r).map (s.grantedOver group reading) ++
      if r = s.roomOf k then
        (s.placed (s.roomOf k) group).map fun m => s.newEntry k m.credential m.permit reading atOnce
      else [] }
  door : ∀ j, t.door j = { s.door j with
    provisional := (s.door j).provisional.filter (fun c => !hasMember group c) ++
      if j = k ∧ atOnce = false then (s.placed (s.roomOf k) group).map GroupMember.credential else [] }
  pairings : t.pairings = s.pairings
  run : t.run = s.run
  schedules : t.schedules = s.schedules

theorem State.tidy.settled_eq {s : State} (h : s.tidy) (room : RoomNo) (c : Credential) :
    s.settled room c = s.holdsConfirmed room c := by
  rw [Bool.eq_iff_iff, h.holdsConfirmed_iff]
  simp [State.settled]

section
variable {s : State} {k : DoorNo} {c : Credential} {q : Qualifying} {reading : Clock} {atOnce : Bool}

/-- What the account sees of a member's grant does not lie in its count and record. -/
theorem State.Grants.congr {t u : State} {group : List GroupMember} (h : s.Grants t k group reading atOnce)
    (hrooms : u.rooms = t.rooms) (hdoors : u.doors = t.doors) (hpairings : u.pairings = t.pairings)
    (hrun : u.run = t.run) (hschedules : u.schedules = t.schedules) : s.Grants u k group reading atOnce where
  room r := by rw [State.room_congr hrooms, h.room]
  door j := by rw [State.door_congr hdoors, h.door]
  pairings := hpairings.trans h.pairings
  run := hrun.trans h.run
  schedules := hschedules.trans h.schedules

theorem State.grants_nil (s : State) (k : DoorNo) (reading : Clock) (atOnce : Bool) :
    s.Grants s k [] reading atOnce := by
  refine ⟨fun r => ?_, fun j => ?_, rfl, rfl, rfl⟩
  · have hsame : s.grantedOver [] reading = id := rfl
    simp [Entry.leaves, hasMember, State.placed, hsame]
  · simp [hasMember, State.placed]

theorem State.grantedOver_singleton (e : Entry) : s.grantedOver [⟨c, q⟩] reading e =
    if e.credential = c then e.regranted q (s.entitledUntil q.permit reading) else e := by
  by_cases hc : e.credential = c
  · simp [State.grantedOver, hc]
  · simp [State.grantedOver, hc, Ne.symm hc]

/-- A grant over the credential's own CONFIRMED entry changes that entry where it stands (R63). -/
theorem State.tidy.grants_own (h : s.tidy) (hkept : s.holdsConfirmed (s.roomOf k) c = true) :
    s.Grants (s.grantEntry k c q reading atOnce) k [⟨c, q⟩] reading atOnce ∧
      (s.grantEntry k c q reading atOnce).tidy := by
  obtain ⟨own, hown, hc, hstate⟩ := h.holdsConfirmed_iff.mp hkept
  have hgrant : s.grantEntry k c q reading atOnce =
      s.changeEntry (s.roomOf k) c (Entry.regranted q (s.entitledUntil q.permit reading)) := if_pos hkept
  have hplaced : s.placed (s.roomOf k) [⟨c, q⟩] = [] := by simp [State.placed, h.settled_eq, hkept]
  have hroom := s.room_changeEntry (s.roomOf k) c (Entry.regranted q (s.entitledUntil q.permit reading))
  rw [hgrant]
  refine ⟨⟨fun r => ?_, fun j => ?_, rfl, rfl, rfl⟩, State.tidy_of_stands h (fun r => ?_) fun _ => rfl⟩
  · have hstays : (s.room r).entries.filter (fun e => !e.leaves [⟨c, q⟩] (s.roomOf k) r) = (s.room r).entries := by
      refine List.filter_eq_self.mpr fun e he => ?_
      by_cases hec : e.credential = c
      · obtain ⟨rfl, rfl⟩ := h.1.once hown he (hec.trans hc.symm)
        simp [Entry.leaves, hstate]
      · simp [Entry.leaves, hasMember, Ne.symm hec]
    rw [hroom, hstays, hplaced]
    simp only [List.map_nil, ite_self, List.append_nil, Room.mk.injEq, true_and]
    refine List.map_congr_left fun e he => ?_
    rw [State.grantedOver_singleton]
    by_cases hec : e.credential = c
    · simp [hec, (h.1.once hown he (hec.trans hc.symm)).1]
    · simp [hec]
  · have hlist : (s.door j).provisional.filter (fun x => !hasMember [⟨c, q⟩] x) = (s.door j).provisional := by
      refine List.filter_eq_self.mpr fun x hx => ?_
      have hne : c ≠ x := by
        rintro rfl
        rw [← hc, h.mem_provisional_iff hown, hstate] at hx
        exact nomatch hx.1
      simp [hasMember, hne]
    rw [hlist, hplaced]
    simp
    rfl
  · rw [hroom, List.map_map]
    refine List.map_congr_left fun e _ => ?_
    simp only [Function.comp_apply]
    split <;> rfl

/-- A grant that keeps no entry removes the credential's old one and places a new one (R62). -/
theorem State.tidy.grants_new (h : s.tidy) (hkept : s.holdsConfirmed (s.roomOf k) c = false) :
    s.Grants (s.grantEntry k c q reading atOnce) k [⟨c, q⟩] reading atOnce ∧
      (s.grantEntry k c q reading atOnce).tidy := by
  have hgrant : s.grantEntry k c q reading atOnce = (s.departed k c).placeGranted k c q reading atOnce :=
    if_neg (by simp [hkept])
  have hremoves := h.departed_removes hkept
  have hplaced : s.placed (s.roomOf k) [⟨c, q⟩] = [⟨c, q⟩] := by simp [State.placed, h.settled_eq, hkept]
  have hroomOf : (s.departed k c).roomOf k = s.roomOf k :=
    State.roomOf_congr_settings (fun j => by rw [hremoves.door]) k
  have hentry : (s.departed k c).newEntry k c q reading atOnce = s.newEntry k c q reading atOnce := by
    simp only [State.newEntry, State.entitledUntil_congr (State.departed_schedules hkept)]
  rw [hgrant]
  refine ⟨⟨fun r => ?_, fun j => ?_, (State.placeGranted_pairings _ _ _ _ _ _).trans hremoves.pairings, ?_, ?_⟩,
    (hremoves.tidy h).placeGranted (hremoves.findEntry_eq_none (by simp)) k q reading atOnce⟩
  · have hfilter : (s.room r).entries.filter (fun e => !e.leaves [⟨c, q⟩] (s.roomOf k) r) =
        (s.room r).entries.filter fun e => !e.credential == c := by
      refine List.filter_congr fun e he => ?_
      by_cases hec : e.credential = c
      · have hgoes : ¬(r = s.roomOf k ∧ e.state = .confirmed) := by
          rintro ⟨rfl, hstate⟩
          rw [h.holdsConfirmed_iff.mpr ⟨e, he, hec, hstate⟩] at hkept
          cases hkept
        have hgoes : (r == s.roomOf k && e.state == .confirmed) = false := by simpa using hgoes
        simp [Entry.leaves, hasMember, hec, hgoes]
      · have hother : (c == e.credential) = false := beq_eq_false_iff_ne.mpr (Ne.symm hec)
        simp [Entry.leaves, hasMember, hother, hec]
    have hstays : ((s.room r).entries.filter fun e => !e.credential == c).map (s.grantedOver [⟨c, q⟩] reading) =
        (s.room r).entries.filter fun e => !e.credential == c := by
      refine (List.map_congr_left fun e he => ?_).trans (List.map_id _)
      have hec : e.credential ≠ c := by simpa using (List.mem_filter.mp he).2
      rw [State.grantedOver_singleton, if_neg hec]
      rfl
    rw [State.room_placeGranted, hremoves.room, hroomOf, hentry, hfilter, hstays, hplaced]
    rfl
  · rw [State.door_placeGranted, hremoves.door, hremoves.door, hplaced]
    by_cases hj : j = k
    · subst hj
      cases atOnce <;> simp [hasMember, Bool.beq_comm]
    · simp [hj, hasMember, Bool.beq_comm]
  · obtain ⟨_, _, hform⟩ := (s.departed k c).placeGranted_form k c q reading atOnce
    rw [hform]
    exact hremoves.run
  · obtain ⟨_, _, hform⟩ := (s.departed k c).placeGranted_form k c q reading atOnce
    rw [hform]
    exact State.departed_schedules hkept

end

/-! ## One member after the other -/

theorem State.grantedOver_stands (s : State) (group : List GroupMember) (reading : Clock) (e : Entry) :
    (s.grantedOver group reading e).credential = e.credential ∧ (s.grantedOver group reading e).state = e.state := by
  unfold State.grantedOver
  split <;> exact ⟨rfl, rfl⟩

theorem Entry.leaves_cons (m : GroupMember) (group : List GroupMember) (room r : RoomNo) (e : Entry) :
    e.leaves (m :: group) room r = (e.leaves [m] room r || e.leaves group room r) := by
  simp [Entry.leaves, hasMember, Bool.and_or_distrib_right]

section
variable {s t u : State} {k : DoorNo} {m : GroupMember} {group : List GroupMember} {reading : Clock} {atOnce : Bool}

theorem State.grantedOver_congr (h : t.schedules = s.schedules) : t.grantedOver group reading = s.grantedOver group reading := by
  funext e
  simp only [State.grantedOver, State.entitledUntil_congr h]

theorem State.newEntry_congr (h : t.schedules = s.schedules) (c : Credential) (q : Qualifying) :
    t.newEntry k c q reading atOnce = s.newEntry k c q reading atOnce := by
  simp only [State.newEntry, State.entitledUntil_congr h]

theorem State.grantedOver_of_not_member {e : Entry} (h : hasMember group e.credential = false) :
    s.grantedOver group reading e = e := by
  have hnone : group.find? (fun m => m.credential == e.credential) = none := by
    rwa [List.find?_eq_none, ← List.any_eq_false]
  rw [State.grantedOver, hnone]

theorem State.grantedOver_cons (hm : hasMember group m.credential = false) (e : Entry) :
    s.grantedOver group reading (s.grantedOver [m] reading e) = s.grantedOver (m :: group) reading e := by
  rw [State.grantedOver_singleton]
  split
  next he =>
    have hfirst : s.grantedOver (m :: group) reading e =
        e.regranted m.permit (s.entitledUntil m.permit.permit reading) := by simp [State.grantedOver, he]
    rw [hfirst]
    refine State.grantedOver_of_not_member ?_
    rwa [← he] at hm
  next he =>
    have hother : (m.credential == e.credential) = false := beq_eq_false_iff_ne.mpr (Ne.symm he)
    simp [State.grantedOver, hother]

/-- Two rounds of grants over the entries of a room come to one. -/
theorem State.filter_map_grantedOver (hm : hasMember group m.credential = false) (room r : RoomNo) (l : List Entry) :
    (((l.filter fun e => !e.leaves [m] room r).map (s.grantedOver [m] reading)).filter fun e =>
        !e.leaves group room r).map (s.grantedOver group reading) =
      (l.filter fun e => !e.leaves (m :: group) room r).map (s.grantedOver (m :: group) reading) := by
  have hleaves (e : Entry) : (s.grantedOver [m] reading e).leaves group room r = e.leaves group room r := by
    obtain ⟨hcredential, hstate⟩ := s.grantedOver_stands [m] reading e
    rw [Entry.leaves, Entry.leaves, hcredential, hstate]
  rw [List.filter_map, List.filter_filter, List.map_map]
  have hkeep : (fun e : Entry => ((fun e => !e.leaves group room r) ∘ s.grantedOver [m] reading) e &&
      !e.leaves [m] room r) = fun e => !e.leaves (m :: group) room r := by
    funext e
    rw [Function.comp_apply, hleaves, Entry.leaves_cons m group, Bool.not_or, Bool.and_comm]
  rw [hkeep]
  exact List.map_congr_left fun e _ => State.grantedOver_cons hm e

theorem hasMember_of_mem (h : m ∈ group) : hasMember group m.credential = true :=
  List.any_eq_true.mpr ⟨m, h, beq_self_eq_true _⟩

/-- The entries that the grants of a group place are the members'. -/
theorem State.hasMember_of_mem_entries_placed {e : Entry} {room r : RoomNo}
    (he : e ∈ if r = room then (s.placed room group).map fun m => s.newEntry k m.credential m.permit reading atOnce
      else []) : hasMember group e.credential = true := by
  split at he
  · obtain ⟨g, hg, rfl⟩ := List.mem_map.mp he
    exact hasMember_of_mem (List.mem_of_mem_filter hg)
  · cases he

/-- The grants of a group keep or change no CONFIRMED entry of another credential in the door's room. -/
theorem State.Grants.settled (h : s.Grants t k group reading atOnce) {c : Credential}
    (hc : hasMember group c = false) (r : RoomNo) : t.settled r c = s.settled r c := by
  rw [State.settled, State.settled, h.room, List.any_append, List.any_map, List.any_filter, Bool.eq_iff_iff]
  have hnew : (if r = s.roomOf k then (s.placed (s.roomOf k) group).map fun m =>
      s.newEntry k m.credential m.permit reading atOnce else []).any
      (fun e => e.credential == c && e.state == .confirmed) = false := by
    refine List.any_eq_false.mpr fun e he hec => ?_
    have hmember := State.hasMember_of_mem_entries_placed he
    simp only [Bool.and_eq_true, beq_iff_eq] at hec
    rw [hec.1, hc] at hmember
    cases hmember
  rw [hnew, Bool.or_false, List.any_eq_true, List.any_eq_true]
  refine exists_congr fun e => and_congr_right fun _ => ?_
  obtain ⟨hcredential, hstate⟩ := s.grantedOver_stands group reading e
  simp only [Function.comp_apply, hcredential, hstate, Entry.leaves, Bool.and_eq_true, beq_iff_eq]
  refine ⟨And.right, fun he => ⟨?_, he⟩⟩
  simp [he.1, hc]

/-- A member's grant, and then those of the rest of its group (R81). -/
theorem State.Grants.cons (h : s.Grants t k [m] reading atOnce) (h' : t.Grants u k group reading atOnce)
    (hm : hasMember group m.credential = false) : s.Grants u k (m :: group) reading atOnce := by
  have hroomOf : t.roomOf k = s.roomOf k := State.roomOf_congr_settings (fun j => by rw [h.door]) k
  have hplaced : t.placed (s.roomOf k) group = s.placed (s.roomOf k) group := by
    refine List.filter_congr fun g hg => ?_
    have hg : hasMember [m] g.credential = false := by
      have hne : m.credential ≠ g.credential := fun heq => by
        rw [heq, hasMember_of_mem hg] at hm
        cases hm
      simp [hasMember, hne]
    rw [h.settled hg]
  have hcons : s.placed (s.roomOf k) (m :: group) =
      s.placed (s.roomOf k) [m] ++ s.placed (s.roomOf k) group := List.filter_append [m] group
  refine ⟨fun r => ?_, fun j => ?_, h'.pairings.trans h.pairings, h'.run.trans h.run,
    h'.schedules.trans h.schedules⟩
  · rw [h'.room, h.room, hroomOf, hplaced, hcons, State.grantedOver_congr h.schedules,
      funext fun g : GroupMember => State.newEntry_congr h.schedules g.credential g.permit]
    simp only [List.filter_append, List.map_append, Room.mk.injEq, true_and]
    have hnew : ((if r = s.roomOf k then (s.placed (s.roomOf k) [m]).map fun g =>
          s.newEntry k g.credential g.permit reading atOnce else []).filter fun e =>
            !e.leaves group (s.roomOf k) r).map (s.grantedOver group reading) =
        if r = s.roomOf k then (s.placed (s.roomOf k) [m]).map fun g =>
          s.newEntry k g.credential g.permit reading atOnce else [] := by
      have hstranger {e : Entry} (he : e ∈ if r = s.roomOf k then (s.placed (s.roomOf k) [m]).map fun g =>
          s.newEntry k g.credential g.permit reading atOnce else []) : hasMember group e.credential = false := by
        have hmember := State.hasMember_of_mem_entries_placed he
        have heq : m.credential = e.credential := by simpa [hasMember] using hmember
        rwa [heq] at hm
      rw [List.filter_eq_self.mpr fun e he => by simp [Entry.leaves, hstranger he]]
      exact (List.map_congr_left fun e he => State.grantedOver_of_not_member (hstranger he)).trans (List.map_id' _)
    rw [State.filter_map_grantedOver hm, hnew, List.append_assoc]
    split <;> rfl
  · rw [h'.door, h.door, hroomOf, hplaced, hcons]
    simp only [List.filter_append, List.filter_filter, List.map_append, DoorChannel.mk.injEq, true_and, and_true]
    have hkeep : (fun c => !hasMember group c && !hasMember [m] c) = fun c => !hasMember (m :: group) c := by
      funext c
      simp [hasMember, Bool.and_comm]
    have hnew : (if j = k ∧ atOnce = false then (s.placed (s.roomOf k) [m]).map GroupMember.credential else []).filter
        (fun c => !hasMember group c) =
        if j = k ∧ atOnce = false then (s.placed (s.roomOf k) [m]).map GroupMember.credential else [] := by
      refine List.filter_eq_self.mpr fun c hc => ?_
      split at hc
      · obtain ⟨g, hg, rfl⟩ := List.mem_map.mp hc
        obtain rfl := List.mem_singleton.mp (List.mem_of_mem_filter hg)
        simp [hm]
      · cases hc
    rw [hkeep, hnew, List.append_assoc]
    split <;> rfl

/-- One grant at a door (R62, R63). -/
theorem State.tidy.grants_applyGrant (h : s.tidy) (a : ReaderNo) (c : Credential) (q : Qualifying) :
    s.Grants (s.applyGrant k a c q reading atOnce) k [⟨c, q⟩] reading atOnce ∧
      (s.applyGrant k a c q reading atOnce).tidy := by
  have hcounted (g : State) : (g.countGrant k a c q (s.entitledUntil q.permit reading)).account = g.account := by
    simp [State.countGrant]
  obtain ⟨hgrants, htidy⟩ : s.Grants (s.grantEntry k c q reading atOnce) k [⟨c, q⟩] reading atOnce ∧
      (s.grantEntry k c q reading atOnce).tidy := by
    cases hkept : s.holdsConfirmed (s.roomOf k) c with
    | true => exact h.grants_own hkept
    | false => exact h.grants_new hkept
  rw [State.applyGrant_eq]
  refine ⟨hgrants.congr ?_ ?_ ?_ ?_ ?_, (State.tidy_congr ?_ fun j => ?_).mpr htidy⟩
  · simp [State.countGrant]
  · simp [State.countGrant]
  · simp [State.countGrant]
  · simp [State.countGrant]
  · simp [State.countGrant]
  · simp [State.countGrant]
  · exact ((State.account_eq_iff.mp (hcounted _)).2.1 j).2

/-- The grants of a group whose members are distinct (R81). -/
theorem State.tidy.grants_applyGroup {x : Arrival} {group : List GroupMember} {atOnce : Bool} (h : s.tidy)
    (hnodup : (group.map GroupMember.credential).Nodup) :
    s.Grants (s.applyGroup x group atOnce) x.door group x.reading atOnce ∧ (s.applyGroup x group atOnce).tidy := by
  induction group generalizing s with
  | nil => exact ⟨s.grants_nil _ _ _, h⟩
  | cons m group ih =>
    obtain ⟨hm, hnodup'⟩ := List.nodup_cons.mp hnodup
    obtain ⟨hfirst, htidy⟩ := h.grants_applyGrant x.reader m.credential m.permit (k := x.door) (reading := x.reading)
      (atOnce := atOnce)
    obtain ⟨hrest, htidy'⟩ := ih htidy hnodup'
    refine ⟨hfirst.cons hrest ?_, htidy'⟩
    refine List.any_eq_false.mpr fun g hg hc => hm ?_
    exact List.mem_map.mpr ⟨g, hg, beq_iff_eq.mp hc⟩

end

end Sys2Proof.Machine

namespace Sys2Proof.Machine

/-! ## How many are inside after a group's grants (R59, R80, R92) -/

theorem State.totalEntries_eq (s : State) : s.totalEntries = (s.allEntries.map Entry.credential).length := by
  rw [State.totalEntries, State.allEntries, List.length_map, List.length_flatMap]
  rfl

theorem State.mem_of_entryIn {s : State} {room : RoomNo} {c : Credential} (h : s.entryIn room c = true) :
    ∃ e ∈ (s.room room).entries, e.credential = c := by
  unfold State.entryIn at h
  split at h
  next r e hfound =>
    obtain rfl := of_decide_eq_true h
    exact ⟨e, State.of_findEntry hfound⟩
  next => cases h

section
variable {s t : State} {k : DoorNo} {group : List GroupMember} {reading : Clock} {atOnce : Bool}
  (ht : s.Grants t k group reading atOnce)
include ht

/-- Who is in a room after the grants was there before, or is a member and in the door's room. -/
theorem State.Grants.of_mem {r : RoomNo} {y : Entry} (hy : y ∈ (t.room r).entries) :
    (∃ e ∈ (s.room r).entries, e.credential = y.credential) ∨
      r = s.roomOf k ∧ ∃ m ∈ group, m.credential = y.credential := by
  rw [ht.room] at hy
  rcases List.mem_append.mp hy with hy | hy
  · obtain ⟨e, he, rfl⟩ := List.mem_map.mp hy
    exact .inl ⟨e, List.mem_of_mem_filter he, (s.grantedOver_stands group reading e).1.symm⟩
  · split at hy
    next hr =>
      obtain ⟨m, hm, rfl⟩ := List.mem_map.mp hy
      exact .inr ⟨hr, m, List.mem_of_mem_filter hm, rfl⟩
    next => cases hy

theorem State.Grants.length_le (htidy : t.tidy) :
    (t.room (s.roomOf k)).entries.length ≤
      s.entryCount (s.roomOf k) + group.countP fun m => !s.entryIn (s.roomOf k) m.credential := by
  have hnodup : ((t.room (s.roomOf k)).entries.map Entry.credential).Nodup := by
    have hd := htidy.1
    rw [State.distinct, State.allEntries, List.map_flatMap] at hd
    exact (List.nodup_flatMap.mp hd).1 _ (mem_sixteen _)
  have hsubset : (t.room (s.roomOf k)).entries.map Entry.credential ⊆
      (s.room (s.roomOf k)).entries.map Entry.credential ++
        (group.filter fun m => !s.entryIn (s.roomOf k) m.credential).map GroupMember.credential := by
    intro c hc
    obtain ⟨y, hy, rfl⟩ := List.mem_map.mp hc
    rcases ht.of_mem hy with ⟨e, he, heq⟩ | ⟨-, m, hm, heq⟩
    · exact List.mem_append_left _ (heq ▸ List.mem_map_of_mem he)
    · cases hin : s.entryIn (s.roomOf k) m.credential with
      | true =>
        obtain ⟨e, he, hc⟩ := State.mem_of_entryIn hin
        exact List.mem_append_left _ ((hc.trans heq) ▸ List.mem_map_of_mem he)
      | false => exact List.mem_append_right _ (heq ▸ List.mem_map_of_mem (List.mem_filter.mpr ⟨hm, by simp [hin]⟩))
  have hle := (hnodup.subperm hsubset).length_le
  simpa [List.countP_eq_length_filter, State.entryCount] using hle

theorem State.Grants.totalEntries_le (htidy : t.tidy) :
    t.totalEntries ≤ s.totalEntries + group.countP fun m => (s.findEntry m.credential).isNone := by
  have hsubset : t.allEntries.map Entry.credential ⊆ s.allEntries.map Entry.credential ++
      (group.filter fun m => (s.findEntry m.credential).isNone).map GroupMember.credential := by
    intro c hc
    obtain ⟨y, hy, rfl⟩ := List.mem_map.mp hc
    obtain ⟨r, hr⟩ := State.mem_allEntries_iff.mp hy
    rcases ht.of_mem hr with ⟨e, he, heq⟩ | ⟨-, m, hm, heq⟩
    · exact List.mem_append_left _ (heq ▸ List.mem_map_of_mem (State.mem_allEntries he))
    · cases hfound : s.findEntry m.credential with
      | none =>
        exact List.mem_append_right _ (heq ▸ List.mem_map_of_mem (List.mem_filter.mpr ⟨hm, by simp [hfound]⟩))
      | some found =>
        obtain ⟨he, hc⟩ := State.of_findEntry hfound
        exact List.mem_append_left _ ((hc.trans heq) ▸ List.mem_map_of_mem (State.mem_allEntries he))
  have hle := (List.Nodup.subperm htidy.1 hsubset).length_le
  rw [State.totalEntries_eq, State.totalEntries_eq]
  simpa [List.countP_eq_length_filter] using hle

/-- A room other than the door's gains no entry. -/
theorem State.Grants.length_le_of_other {r : RoomNo} (hr : r ≠ s.roomOf k) :
    (t.room r).entries.length ≤ (s.room r).entries.length := by
  rw [ht.room, if_neg hr, List.append_nil, List.length_map]
  exact List.length_filter_le _ _

/-- A room that holds no member's entry, and is not the door's, stands as it did. -/
theorem State.Grants.room_of_untouched {r : RoomNo} (hother : r ≠ s.roomOf k)
    (hstranger : ∀ e ∈ (s.room r).entries, hasMember group e.credential = false) : t.room r = s.room r := by
  rw [ht.room, if_neg hother, List.append_nil,
    List.filter_eq_self.mpr fun e he => by simp [Entry.leaves, hstranger e he],
    (List.map_congr_left fun e he => State.grantedOver_of_not_member (hstranger e he)).trans (List.map_id' _)]

end

/-- The rooms that are not checked after the grants of a group are neither the door's nor a member's (R86). -/
theorem State.tidy.of_not_touched {s : State} (h : s.tidy) {k : DoorNo} {group : List GroupMember} {r : RoomNo}
    (hr : r ∉ s.roomsTouched k (group.map GroupMember.credential)) :
    r ≠ s.roomOf k ∧ ∀ e ∈ (s.room r).entries, hasMember group e.credential = false := by
  simp only [State.roomsTouched, List.mem_append, List.mem_filter, List.mem_singleton, not_or, List.filterMap_map,
    List.mem_filterMap] at hr
  obtain ⟨hnone, hother⟩ := hr
  refine ⟨hother, fun e he => List.any_eq_false.mpr fun m hm hc => hnone ⟨⟨m, hm, ?_⟩, by simpa using hother⟩⟩
  rw [Function.comp_apply, beq_iff_eq.mp hc, h.1.findEntry_of_mem he]
  rfl

/-- Grants leave the account tidy, and the rooms that are neither the door's nor a member's as they are, even where a
credential is granted twice. -/
theorem State.tidy.applyGroup {s : State} (h : s.tidy) (x : Arrival) (group : List GroupMember) (atOnce : Bool) :
    (s.applyGroup x group atOnce).tidy ∧
      ∀ r, r ≠ s.roomOf x.door → (∀ e ∈ (s.room r).entries, hasMember group e.credential = false) →
        (s.applyGroup x group atOnce).room r = s.room r := by
  induction group generalizing s with
  | nil => exact ⟨h, fun _ _ _ => rfl⟩
  | cons m group ih =>
    obtain ⟨hfirst, htidy⟩ := h.grants_applyGrant x.reader m.credential m.permit (k := x.door) (reading := x.reading)
      (atOnce := atOnce)
    obtain ⟨hlast, hrest⟩ := ih htidy
    refine ⟨hlast, fun r hr hstranger => ?_⟩
    have hsplit (e : Entry) (he : e ∈ (s.room r).entries) :
        hasMember [m] e.credential = false ∧ hasMember group e.credential = false := by
      simpa [hasMember] using hstranger e he
    have hsame := hfirst.room_of_untouched hr fun e he => (hsplit e he).1
    have hroomOf : (s.applyGrant x.door x.reader m.credential m.permit x.reading atOnce).roomOf x.door =
        s.roomOf x.door := State.roomOf_congr_settings (fun j => by rw [hfirst.door]) x.door
    rw [← hsame]
    exact hrest r (hroomOf ▸ hr) fun e he => (hsplit e (hsame ▸ he)).2

/-- The grants of a group that has passed the cap check keep the account sound once the rooms they touch are checked
(R59, R80, R86). -/
theorem State.Sound.grant {tended paired capped : Prop} {s t : State} {k : DoorNo} {group : List GroupMember}
    {reading : Clock} {atOnce : Bool} (h : s.Sound tended paired capped) (htidy : t.tidy)
    (hrest : ∀ r, r ∉ s.roomsTouched k (group.map GroupMember.credential) → t.room r = s.room r)
    (ht : paired → s.Grants t k group reading atOnce) (hrun : s.run = .running)
    (hserves : (s.door k).settings.inService = true)
    (hcap : s.entryCount (s.roomOf k) + (group.countP fun m => !s.entryIn (s.roomOf k) m.credential) ≤
      max (s.entryCount (s.roomOf k)) (s.room (s.roomOf k)).settings.cap)
    (hpool : (group.countP fun m => (s.findEntry m.credential).isNone) ≤ s.freeCount) :
    (t.superviseAll (s.roomsTouched k (group.map GroupMember.credential))).Sound tended paired capped := by
  refine ⟨(State.tidy_superviseAll _ t).mpr htidy, fun hw => ?_, fun hp => ?_, fun hp hc => ⟨fun q => ?_, ?_⟩⟩
  · refine State.supervisionWf_superviseAll (h.supervision hw) fun q hq => ?_
    rw [hrest q hq]
    exact ⟨rfl, rfl⟩
  · obtain ⟨hwf, htotal⟩ := h.pairings hp
    refine ⟨(State.pairingsWf_congr ((State.superviseAll_pairings _ _).trans (ht hp).pairings)
      ((State.superviseAll_run _ _).trans (ht hp).run)).mpr hwf, ?_⟩
    have hless : (t.superviseAll (s.roomsTouched k (group.map GroupMember.credential))).totalEntries ≤ t.totalEntries :=
      State.totalEntries_le fun q => by rw [State.entries_superviseAll]
    have hmore := (ht hp).totalEntries_le htidy
    have hfree : s.freeCount = 128 - s.totalEntries := rfl
    omega
  · obtain ⟨hcaps, hused⟩ := h.caps hp hc
    obtain ⟨hfits, hempty⟩ := hcaps q
    have hsettings : (t.room q).settings = (s.room q).settings := by rw [(ht hp).room]
    rw [State.entries_superviseAll, State.settings_superviseAll, hsettings]
    by_cases hq : q = s.roomOf k
    · subst hq
      refine ⟨((ht hp).length_le htidy).trans (hcap.trans (max_le hfits le_rfl)), fun hunused => ?_⟩
      rw [hused hrun k hserves] at hunused
      cases hunused
    · have hless := (ht hp).length_le_of_other hq
      refine ⟨hless.trans hfits, fun hunused => List.eq_nil_of_length_eq_zero ?_⟩
      simpa [hempty hunused] using hless
  · obtain ⟨-, hused⟩ := h.caps hp hc
    have hsettings (q : RoomNo) : (t.room q).settings = (s.room q).settings := by rw [(ht hp).room]
    have hdoor (j : DoorNo) : ((t.superviseAll (s.roomsTouched k (group.map GroupMember.credential))).door j).settings =
        (s.door j).settings := by rw [State.door_superviseAll, (ht hp).door]
    simpa only [State.superviseAll_run, (ht hp).run, hdoor, State.settings_superviseAll, hsettings,
      State.roomOf_congr_settings hdoor] using hused

end Sys2Proof.Machine

/-! # Decisions keep the account sound (O34) -/

namespace Sys2Proof.Machine

section
variable {tended paired capped : Prop} {s u : State}

/-! ## Outcomes (R58, R61 to R65, R69) -/

@[simp] theorem State.account_deny (k : DoorNo) (a : ReaderNo) (c : Credential) (reason : Reason)
    (permit : Option (Nat × Nat)) : (s.deny k a c reason permit).account = s.account := by simp [State.deny]

@[simp] theorem State.account_wait (x : Arrival) (n : Nat) : (s.wait x n).account = s.account := by simp [State.wait]

@[simp] theorem State.account_regrant (k : DoorNo) (a : ReaderNo) (e : Entry) :
    (s.regrant k a e).account = s.account := by
  rw [State.regrant, State.account_post, State.account_submit]
  exact s.account_modifyDoor (by simp)

/-- The grants of a group, applied in a state `u` that has the rooms and door settings of `s`. -/
theorem State.Sound.applyGroup {x : Arrival} {group : List GroupMember} (atOnce : Bool)
    (hu : u.Sound tended paired capped) (hrooms : u.rooms = s.rooms)
    (hsettings : ∀ j, (u.door j).settings = (s.door j).settings) (hrun : u.run = .running)
    (hnodup : paired → (group.map GroupMember.credential).Nodup) (hserves : (s.door x.door).settings.inService = true)
    (hcap : s.entryCount (s.roomOf x.door) + (group.countP fun m => !s.entryIn (s.roomOf x.door) m.credential) ≤
      max (s.entryCount (s.roomOf x.door)) (s.room (s.roomOf x.door)).settings.cap)
    (hpool : (group.countP fun m => (s.findEntry m.credential).isNone) ≤ s.freeCount) :
    (((u.applyGroup x group atOnce).post x.reader .grant).superviseAll
      (s.roomsTouched x.door (group.map GroupMember.credential))).Sound tended paired capped := by
  have hroomOf := State.roomOf_congr_settings hsettings x.door
  have htouched : s.roomsTouched x.door (group.map GroupMember.credential) =
      u.roomsTouched x.door (group.map GroupMember.credential) := by
    simp only [State.roomsTouched, State.findEntry_congr hrooms, hroomOf]
  have hfound := State.findEntry_congr hrooms
  obtain ⟨htidy, hrest⟩ := hu.tidy.applyGroup x group atOnce
  rw [htouched]
  refine hu.grant (reading := x.reading) (atOnce := atOnce) ?_ (fun r hr => ?_) (fun hp => ?_) hrun
    (hsettings x.door ▸ hserves) ?_ ?_
  · exact (State.tidy_congr (by simp) fun j => by rw [State.door_congr (State.post_doors _ _ _)]).mpr htidy
  · obtain ⟨hother, hstranger⟩ := hu.tidy.of_not_touched hr
    exact (State.room_congr (by simp) r).trans (hrest r hother hstranger)
  · obtain ⟨hgrants, -⟩ := hu.tidy.grants_applyGroup (x := x) (atOnce := atOnce) (hnodup hp)
    obtain ⟨_, hpost⟩ := (u.applyGroup x group atOnce).post_form x.reader .grant
    exact hgrants.congr (by simp) (by simp) (by simp) (by rw [hpost]) (by rw [hpost])
  · rw [hroomOf]
    simpa only [State.entryCount, State.room_congr hrooms, State.entryIn, hfound] using hcap
  · simpa only [hfound, State.freeCount, State.totalEntries_congr hrooms] using hpool

theorem State.capCheck_eq_none_iff {room : RoomNo} {adds needed : Nat} : s.capCheck room adds needed = none ↔
    s.entryCount room + adds ≤ (s.room room).settings.cap ∧ needed ≤ s.freeCount := by
  unfold State.capCheck
  split
  next hfull => simp [Nat.not_le.mpr hfull]
  next hfull =>
    split
    next hdrained => simp [Nat.not_le.mpr hdrained]
    next hdrained => simp [Nat.not_lt.mp hfull, Nat.not_lt.mp hdrained]

/-- A lone grant that has passed the cap check (R59, R61 to R64). -/
theorem State.Sound.grantSingle {k : DoorNo} {c : Credential} (a : ReaderNo) (q : Qualifying) (n : Nat)
    (reading : Clock) (h : s.Sound tended paired capped) (hrun : s.run = .running)
    (hserves : (s.door k).settings.inService = true)
    (hcap : s.entryCount (s.roomOf k) + (if s.entryIn (s.roomOf k) c = false then 1 else 0) ≤
      max (s.entryCount (s.roomOf k)) (s.room (s.roomOf k)).settings.cap)
    (hpool : (if (s.findEntry c).isNone then 1 else 0) ≤ s.freeCount) :
    (s.grantSingle k a c q n reading).Sound tended paired capped := by
  unfold State.grantSingle
  split
  · exact h.frame (by simp)
  next answer s1 _ hs1 =>
    have haccount := s.account_requestRelease k n
    rw [hs1] at haccount
    obtain ⟨hsame, hdoors, -, hstays⟩ := State.account_eq_iff.mp haccount
    exact ((h.frame haccount).withdrawMember c).applyGroup (s := s) (x := ⟨k, a, c, q, reading⟩) (group := [⟨c, q⟩]) _
      ((s1.withdrawMember_rooms c).trans hsame)
      (fun j => by rw [State.door_congr (s1.withdrawMember_doors c), (hdoors j).1])
      ((s1.withdrawMember_run c).trans (hstays.trans hrun)) (fun _ => List.nodup_singleton c) hserves
      (by simpa using hcap) (by simpa using hpool)

/-- The grants of a group that has passed the cap check (R80, R81). -/
theorem State.Sound.grantGroup {x : Arrival} {group : List GroupMember} (h : s.Sound tended paired capped)
    (hrun : s.run = .running) (hserves : (s.door x.door).settings.inService = true)
    (hnodup : paired → (group.map GroupMember.credential).Nodup)
    (hcap : s.entryCount (s.roomOf x.door) + (group.countP fun m => !s.entryIn (s.roomOf x.door) m.credential) ≤
      max (s.entryCount (s.roomOf x.door)) (s.room (s.roomOf x.door)).settings.cap)
    (hpool : (group.countP fun m => (s.findEntry m.credential).isNone) ≤ s.freeCount) :
    (s.grantGroup x group).Sound tended paired capped := by
  unfold State.grantGroup
  dsimp only
  split
  · exact h.denyGroup _ _ _
  next answer s1 _ hs1 =>
    have haccount := s.account_requestRelease x.door
      (group.countP fun m => !s.holdsConfirmed (s.roomOf x.door) m.credential)
    rw [hs1] at haccount
    obtain ⟨hsame, hdoors, -, hstays⟩ := State.account_eq_iff.mp haccount
    obtain ⟨hrooms, hkept, hstill⟩ : (group.foldl (fun s m => s.withdrawMember m.credential)
        (s1.setPairing x.door none)).rooms = s1.rooms ∧ (group.foldl (fun s m => s.withdrawMember m.credential)
        (s1.setPairing x.door none)).doors = s1.doors ∧ (group.foldl (fun s m => s.withdrawMember m.credential)
        (s1.setPairing x.door none)).run = s1.run :=
      foldl_keeps (P := fun t : State => t.rooms = s1.rooms ∧ t.doors = s1.doors ∧ t.run = s1.run)
        (fun t m ht => by simpa [State.withdrawMember_run] using ht) group _ ⟨rfl, rfl, rfl⟩
    have hwithdrawn := foldl_keeps (f := fun (s : State) (m : GroupMember) => s.withdrawMember m.credential)
      (fun _ m h => State.Sound.withdrawMember m.credential h) group _
      ((h.frame haccount).closePairing x.door)
    exact hwithdrawn.applyGroup (s := s) _ (hrooms.trans hsame)
      (fun j => by rw [State.door_congr hkept, (hdoors j).1]) (hstill.trans (hstays.trans hrun)) hnodup hserves hcap hpool

/-- Members without an entry, and with one elsewhere, are those that join the room (R80). -/
theorem State.countP_entryIn (s : State) (room : RoomNo) (group : List GroupMember) :
    (group.countP fun m => !s.entryIn room m.credential) =
      (group.countP fun m => s.entryElsewhere room m.credential) +
        group.countP fun m => (s.findEntry m.credential).isNone := by
  induction group with
  | nil => rfl
  | cons m group ih =>
    simp only [List.countP_cons, ih]
    cases hfound : s.findEntry m.credential with
    | none => simp [State.entryIn, State.entryElsewhere, hfound]; omega
    | some found =>
      by_cases hr : found.1 = room
      · simp [State.entryIn, State.entryElsewhere, hfound, hr]
      · simp [State.entryIn, State.entryElsewhere, hfound, hr]; omega

theorem State.Sound.judgeGroup {x : Arrival} {group : List GroupMember} (h : s.Sound tended paired capped)
    (hrun : s.run = .running) (hserves : (s.door x.door).settings.inService = true)
    (hnodup : paired → (group.map GroupMember.credential).Nodup) : (s.judgeGroup x group).Sound tended paired capped := by
  unfold State.judgeGroup
  dsimp only
  split
  · exact h.denyGroup _ _ _
  next hcheck =>
    obtain ⟨hcap, hpool⟩ := State.capCheck_eq_none_iff.mp hcheck
    refine h.grantGroup hrun hserves hnodup (hcap.trans (le_max_right _ _)) ?_
    have hsplit := s.countP_entryIn (s.roomOf x.door) group
    omega

/-! ## Arrivals (R72 to R81) -/

/-- Of the held members those that pass the re-check go on, in list order (R79). -/
theorem passedOf_credentials (f : Member → Recheck) (held : List Member) :
    ((passedOf (held.map fun m => (m, f m))).map GroupMember.credential).Sublist (held.map Member.credential) := by
  induction held with
  | nil => exact List.Sublist.slnil
  | cons m held ih =>
    cases hm : f m with
    | passed q =>
      simp only [passedOf, List.map_cons, List.filterMap_cons, hm]
      exact ih.cons_cons _
    | failed reason permit =>
      simp only [passedOf, List.map_cons, List.filterMap_cons, hm]
      exact ih.cons _

/-- An arrival at a door of a RUNNING controller that is in service, and whose record it does not wait in. -/
structure State.Stranger (s : State) (x : Arrival) : Prop where
  run : s.run = .running
  serves : (s.door x.door).settings.inService = true
  stranger : ∀ m ∈ s.membersAt x.door, m.credential ≠ x.credential

theorem State.Sound.completeWith {x : Arrival} {p : PairingRecord} {escort : GroupMember} {held : List Member}
    {arriving : List GroupMember} (h : s.Sound tended paired capped) (hx : s.Stranger x)
    (hp : s.pairing x.door = some p)
    (hnodup : paired → (escort.credential :: (held.map Member.credential ++
      arriving.map GroupMember.credential)).Nodup) : (s.completeWith x escort held arriving).Sound tended paired capped := by
  unfold State.completeWith
  dsimp only
  have hdenied := h.frame (s.account_submitAll
    (s.droppedReports x (held.map fun m => (m, s.recheck x.door x.reading .contractor m))))
  split
  · refine hdenied.enterRecord none (by simpa using hx.run) rfl (fun hnone => ?_) ?_ ?_
    · simp [hp] at hnone
    · simpa [State.membersAt] using hx.stranger
    · exact List.sublist_append_right _ _
  · refine hdenied.judgeGroup (by simpa using hx.run) (by simpa using hx.serves) fun hpaired => ?_
    refine (hnodup hpaired).sublist ?_
    simp only [List.map_cons, List.map_append]
    exact (List.Sublist.append (passedOf_credentials _ held) (List.Sublist.refl _)).cons_cons _

theorem State.Sound.complete {x : Arrival} {p : PairingRecord} (h : s.Sound tended paired capped)
    (hx : s.Stranger x) (hp : s.pairing x.door = some p) : (s.complete x p).Sound tended paired capped := by
  have hmembers := State.membersAt_of_pairing hp
  have hstranger := hmembers ▸ hx.stranger
  have hnodup (hpaired : paired) : (p.members.map Member.credential).Nodup := by
    obtain ⟨-, -, hwaiting, -⟩ := (h.pairings hpaired).1
    rw [State.waiting_eq] at hwaiting
    exact hmembers ▸ (List.nodup_flatMap.mp hwaiting).1 x.door (mem_sixteen _)
  unfold State.complete
  split
  next hescort =>
    have hcontractors : p.members = p.contractors := by simp [PairingRecord.members, hescort]
    rw [hcontractors] at hstranger hnodup
    refine h.completeWith hx hp fun hpaired => ?_
    simpa using ⟨hstranger, hnodup hpaired⟩
  next e hescort =>
    have hgroup : p.members = e :: p.contractors := by simp [PairingRecord.members, hescort]
    rw [hgroup] at hstranger hnodup
    rw [List.forall_mem_cons] at hstranger
    split
    · exact h.denyGroup _ _ _
    · refine h.completeWith hx hp fun hpaired => ?_
      have hall := hnodup hpaired
      rw [List.map_cons] at hall
      have hlast : ((e.credential :: p.contractors.map Member.credential) ++ [x.credential]).Nodup := by
        rw [List.nodup_append_comm]
        exact List.nodup_cons.mpr ⟨by simpa [eq_comm] using hstranger, hall⟩
      simpa using hlast

theorem State.Sound.openRecord {x : Arrival} (h : s.Sound tended paired capped) (hx : s.Stranger x) :
    (s.openRecord x).Sound tended paired capped := by
  unfold State.openRecord
  split
  · exact h.frame (by simp)
  next hopen =>
    have hopen := Nat.not_le.mp hopen
    split
    · refine h.enterRecord none hx.run ?_ (fun _ => hopen) hx.stranger (List.sublist_append_right _ _)
      simp [PairingRecord.wf, State.contractorRecord, Config.groupContractors]
    · exact h.enterRecord none hx.run rfl (fun _ => hopen) hx.stranger (List.sublist_append_right _ _)

theorem State.Sound.joinRecord {x : Arrival} {p : PairingRecord} (h : s.Sound tended paired capped)
    (hx : s.Stranger x) (hp : s.pairing x.door = some p) : (s.joinRecord x p).Sound tended paired capped := by
  have hopen : s.pairing x.door = none → s.openPairings < 8 := fun hnone => absurd (hp.symm.trans hnone) nofun
  unfold State.joinRecord
  split
  next _ _ hrole hescort =>
    split
    next hplace =>
      refine h.enterRecord none hx.run ?_ hopen hx.stranger ?_
      · simp only [PairingRecord.wf, hescort, List.length_append, List.length_singleton]
        exact ⟨by simp, hplace⟩
      · rw [State.membersAt_of_pairing hp]
        simp [PairingRecord.members, hescort]
    next => exact h.frame (by simp)
  · exact h.enterRecord _ hx.run rfl hopen hx.stranger (List.sublist_append_right _ _)
  · exact h.complete hx hp
  · exact h.complete hx hp

theorem State.Sound.arrive {x : Arrival} (h : s.Sound tended paired capped) (hrun : s.run = .running)
    (hserves : (s.door x.door).settings.inService = true) : (s.arrive x).Sound tended paired capped := by
  unfold State.arrive
  split
  next hnone => exact h.openRecord ⟨hrun, hserves, by simp [State.membersAt_of_none hnone]⟩
  next p hp =>
    split
    · exact h.frame (by simp)
    next hnew =>
      refine h.joinRecord ⟨hrun, hserves, ?_⟩ hp
      rw [State.membersAt_of_pairing hp]
      simpa [PairingRecord.has] using hnew

end

end Sys2Proof.Machine

/-! # Every step keeps the account sound (O34) -/

namespace Sys2Proof.Machine

/-! ## Presentations (R43 to R67) -/

section
variable {tended paired capped : Prop} {s : State}

/-- What stage 4 lets through joins the room, and the pool, only where there is a place (R57, R59). -/
theorem State.of_stage4_newEntry {k : DoorNo} {c : Credential} {role : Role} (h : s.stage4 k c role = .newEntry) :
    s.entryCount (s.roomOf k) + (if s.entryIn (s.roomOf k) c = false then 1 else 0) ≤
        (s.room (s.roomOf k)).settings.cap ∧
      (if (s.findEntry c).isNone then 1 else 0) ≤ s.freeCount := by
  have hcap {adds needed : Nat} (hpassage : s.capPassage (s.roomOf k) adds needed = .newEntry) :
      s.capCheck (s.roomOf k) adds needed = none := by
    unfold State.capPassage at hpassage
    split at hpassage
    · cases hpassage
    next hnone => exact hnone
  unfold State.stage4 at h
  split at h
  · cases h
  · unfold State.entryPassage at h
    dsimp only at h
    split at h
    next hfound => simpa [State.entryIn, hfound] using State.capCheck_eq_none_iff.mp (hcap h)
    next r e hfound =>
      split at h
      next hr => simpa [State.entryIn, hfound, hr] using State.capCheck_eq_none_iff.mp (hcap h)
      next hr =>
        split at h
        · split at h
          · cases h
          · simpa [State.entryIn, hfound, not_not.mp hr] using State.capCheck_eq_none_iff.mp (hcap h)
        · split at h <;> cases h

/-- A grant over its own entry is that of a credential inside the door's room (R57). -/
theorem State.of_stage4_overOwn {k : DoorNo} {c : Credential} {role : Role} (h : s.stage4 k c role = .overOwn) :
    s.entryIn (s.roomOf k) c = true ∧ (s.findEntry c).isNone = false := by
  have hcap {adds needed : Nat} : s.capPassage (s.roomOf k) adds needed ≠ .overOwn := by
    unfold State.capPassage
    split <;> nofun
  unfold State.stage4 at h
  split at h
  · cases h
  · unfold State.entryPassage at h
    dsimp only at h
    split at h
    · exact absurd h hcap
    next r e hfound =>
      split at h
      · exact absurd h hcap
      next hr => simp [State.entryIn, hfound, not_not.mp hr]

theorem State.Sound.stage5 {x : Arrival} (h : s.Sound tended paired capped) (hrun : s.run = .running)
    (hserves : (s.door x.door).settings.inService = true)
    (hnew : s.stage4 x.door x.credential x.permit.permit.role = .newEntry) :
    (s.stage5 x).Sound tended paired capped := by
  obtain ⟨hcap, hpool⟩ := State.of_stage4_newEntry hnew
  have halone := h.grantSingle x.reader x.permit 1 x.reading hrun hserves (hcap.trans (le_max_right _ _)) hpool
  have harrive := h.arrive hrun hserves
  unfold State.stage5
  dsimp only
  split
  · exact halone
  · exact harrive
  · split
    · exact halone
    · exact harrive

theorem State.Sound.decideRoom {x : Arrival} (h : s.Sound tended paired capped) (hrun : s.run = .running)
    (hserves : (s.door x.door).settings.inService = true) : (s.decideRoom x).Sound tended paired capped := by
  unfold State.decideRoom
  split
  · exact h.frame (by simp)
  · exact h.frame (by simp)
  next hown =>
    obtain ⟨hin, hfound⟩ := State.of_stage4_overOwn hown
    exact h.grantSingle _ _ _ _ hrun hserves (by simp [hin]) (by simp [hfound])
  next hnew => exact h.stage5 hrun hserves hnew

theorem State.run_of_stage1 {k : DoorNo} (h : s.stage1 k = none) : s.run = .running := by
  cases hrun : s.run with
  | running => rfl
  | stopped => simp [State.stage1, hrun] at h

theorem State.Sound.entryPresentation {k : DoorNo} (a : ReaderNo) (c : Credential) (h : s.Sound tended paired capped)
    (hserves : (s.door k).settings.inService = true) : (s.entryPresentation k a c).Sound tended paired capped := by
  unfold State.entryPresentation
  split
  · exact h.frame (by simp)
  next hstage1 =>
    split
    · exact h.frame (by simp)
    · split
      · exact h.frame (by simp)
      · exact h.decideRoom (State.run_of_stage1 hstage1) hserves

theorem State.Sound.exitPresentation (k : DoorNo) (a : ReaderNo) (c : Credential) (h : s.Sound tended paired capped) :
    (s.exitPresentation k a c).Sound tended paired capped := by
  have hremoved : ((s.exitRemoval k a c).post a .exit).Sound tended paired capped :=
    (h.exitRemoval k a c).frame (by simp)
  unfold State.exitPresentation
  dsimp only
  split
  · exact hremoved.frame (by simp)
  · exact hremoved

/-- A reader is assigned to a door in service (R156). -/
theorem State.inService_of_assignment {a : ReaderNo} {k : DoorNo} {dir : Direction}
    (h : s.assignment a = some (k, dir)) : (s.door k).settings.inService = true := by
  obtain ⟨j, -, hj⟩ := List.exists_of_findSome?_eq_some h
  obtain ⟨dir', hdir, heq⟩ := Option.map_eq_some_iff.mp hj
  obtain ⟨rfl, rfl⟩ := Prod.mk.inj heq
  unfold DoorSettings.direction at hdir
  exact (Option.ite_none_right_eq_some.mp hdir).1

theorem State.Sound.present (a : ReaderNo) (c : Credential) (h : s.Sound tended paired capped) :
    (s.present a c).Sound tended paired capped := by
  unfold State.present
  split
  next hassigned => exact h.entryPresentation a c (State.inService_of_assignment hassigned)
  · exact h.exitPresentation _ a c
  · exact h.frame (by simp [State.unassignedPresentation])

theorem State.Sound.actOnReply (a : ReaderNo) (reply : ReplyKind) (h : s.Sound tended paired capped) :
    (s.actOnReply a reply).Sound tended paired capped := by
  have hheard (tamper : Option Bool) : ((s.readerHeard a).readerTamper a tamper).Sound tended paired capped :=
    h.frame (by simp)
  unfold State.actOnReply
  split
  · exact h
  · exact h.frame (by simp)
  next tamper credential =>
    unfold State.goodReply
    dsimp only
    split
    · unfold State.readCredential
      split
      · exact hheard tamper
      · exact State.Sound.present a _ ((hheard tamper).frame (by simp))
    · exact hheard tamper

/-! ## Modes, START, STOP and resets (R98, R123, R124, R142, R171 to R173) -/

/-- Everything that closing a record with denials can do: pairing records and queued records. -/
theorem State.denyMembers_form (s : State) (k : DoorNo) (reason : Reason) :
    ∃ pairings q n l, s.denyMembers k reason = { s with pairings := pairings, queue := q, nextSequence := n, lost := l } := by
  unfold State.denyMembers
  split
  · exact ⟨s.pairings, s.queue, s.nextSequence, s.lost, rfl⟩
  next p _ =>
    obtain ⟨q, n, l, h⟩ := State.submitAll_form (p.members.map (s.memberDenial k reason)) s
    rw [h]
    exact ⟨_, q, n, l, rfl⟩

theorem State.pairing_denyMembers (s : State) (k : DoorNo) (reason : Reason) (j : DoorNo) :
    (s.denyMembers k reason).pairing j = if k = j then none else s.pairing j := by
  unfold State.denyMembers
  split
  next hnone =>
    split
    next hj => exact hj ▸ hnone
    next => rfl
  next => rw [State.pairing_setPairing, State.submitAll_pairing]

theorem State.pairing_cancelPairing (s : State) (k j : DoorNo) :
    (s.cancelPairing k).pairing j = if k = j then none else s.pairing j := by
  unfold State.cancelPairing
  split
  next hnone =>
    split
    next hj => exact hj ▸ hnone
    next => rfl
  next =>
    obtain ⟨-, -, hpairings, -⟩ := State.account_eq_iff.mp
      (State.account_postAtDoor (s.denyMembers k .pairingCancelled) k (.deny .pairingCancelled))
    rw [State.pairing_congr hpairings, State.pairing_denyMembers]

/-- Closing the records of all doors one by one leaves none. -/
theorem State.foldl_closes {f : State → DoorNo → State}
    (hf : ∀ s k j, (f s k).pairing j = if k = j then none else s.pairing j) (s : State) (k : DoorNo) :
    (sixteen.foldl f s).pairing k = none := by
  have hfold (l : List DoorNo) (s : State) (h : k ∈ l ∨ s.pairing k = none) : (l.foldl f s).pairing k = none := by
    induction l generalizing s with
    | nil => simpa using h
    | cons j l ih =>
      refine ih _ ?_
      rw [hf]
      by_cases hj : j = k
      · simp [hj]
      · simpa [hj, Ne.symm hj] using h
  exact hfold sixteen s (.inl (mem_sixteen k))

/-- Cancelling every record leaves rooms, the doors' settings and lists, and the run state alone (R83). -/
theorem State.cancelAllPairings_keeps (s : State) : s.cancelAllPairings.rooms = s.rooms ∧
    (∀ k, (s.cancelAllPairings.door k).claims = (s.door k).claims) ∧ s.cancelAllPairings.run = s.run := by
  refine foldl_keeps (P := fun t : State => t.rooms = s.rooms ∧ (∀ k, (t.door k).claims = (s.door k).claims) ∧
    t.run = s.run) (fun t k ht => ?_) sixteen s ⟨rfl, fun _ => rfl, rfl⟩
  obtain ⟨hrooms, hdoors, hrun⟩ := ht
  obtain ⟨pairings, q, n, l, hdenied⟩ := t.denyMembers_form k .pairingCancelled
  unfold State.cancelPairing
  split
  · exact ⟨hrooms, hdoors, hrun⟩
  · obtain ⟨hsame, hclaims, -, hstays⟩ := State.account_eq_iff.mp
      (State.account_postAtDoor (t.denyMembers k .pairingCancelled) k (.deny .pairingCancelled))
    rw [hdenied] at hsame hclaims hstays ⊢
    exact ⟨hsame.trans hrooms, fun j => (Prod.ext (hclaims j).1 (hclaims j).2).trans (hdoors j), hstays.trans hrun⟩

theorem State.Sound.pairings_dropReferences (k : DoorNo) (h : s.Sound tended paired capped) :
    (s.dropReferences k).pairings = s.pairings := by
  rw [State.dropReferences_eq, State.superviseAll_pairings, (h.tidy.drop_removes k).pairings]

/-- Every door hands over its list, and none names an entry afterwards (R98, R108). -/
theorem State.Sound.foldl_dropReferences (l : List DoorNo) (h : s.Sound tended paired capped) :
    (l.foldl State.dropReferences s).Sound tended paired capped ∧
      (l.foldl State.dropReferences s).pairings = s.pairings ∧ ∀ k, k ∈ l ∨ (s.door k).provisional = [] →
        ((l.foldl State.dropReferences s).door k).provisional = [] := by
  induction l generalizing s with
  | nil => exact ⟨h, rfl, by simp⟩
  | cons j l ih =>
    obtain ⟨hsound, hpairings, hempty⟩ := ih (h.dropReferences j)
    refine ⟨hsound, hpairings.trans (h.pairings_dropReferences j), fun k hk => hempty k ?_⟩
    by_cases hj : k = j
    · exact .inr (h.provisional_dropReferences j k (.inl hj))
    · refine hk.imp (fun hmem => ?_) fun hnone => h.provisional_dropReferences j k (.inr hnone)
      simpa [hj] using hmem

theorem State.Sound.stopDoors (h : s.Sound tended paired capped) :
    s.dropAllReferences.stopDoors.Sound tended paired capped ∧
      s.dropAllReferences.stopDoors.pairings = s.pairings := by
  obtain ⟨hsound, hpairings, hempty⟩ := h.foldl_dropReferences sixteen
  have hstopped := State.account_stopDoors fun k => hempty k (.inl (mem_sixteen k))
  exact ⟨hsound.frame hstopped, (State.account_eq_iff.mp hstopped).2.2.1.trans hpairings⟩

/-- A controller that closes every pairing record may stop (R83, R172). -/
theorem State.Sound.halt {t : State} (h : s.Sound tended paired capped) (hrooms : t.rooms = s.rooms)
    (hdoors : ∀ k, (t.door k).claims = (s.door k).claims) (hrun : t.run = .stopped)
    (hclosed : ∀ k, t.pairing k = none) : t.Sound tended paired capped :=
  h.repair hrooms hdoors (fun hr => absurd (hrun.symm.trans hr) nofun) fun _ => State.pairingsWf_of_none hclosed

theorem State.Sound.stopRunning (h : s.Sound tended paired capped) : s.stopRunning.Sound tended paired capped := by
  obtain ⟨hrooms, hdoors, hrun⟩ :=
    State.cancelAllPairings_keeps (State.submit { s with run := .stopped } { kind := .controllerStopped })
  refine (State.Sound.stopDoors (h.halt (hrooms.trans (by simp)) (fun k => (hdoors k).trans ?_) (hrun.trans (by simp))
    (State.foldl_closes State.pairing_cancelPairing _))).1
  rw [State.submit_door]
  rfl

theorem State.account_resetReaders (s : State) : s.resetReaders.account = s.account :=
  s.account_submitAll (allReaders.flatMap s.tamperEnd)

/-- The trunk interface returns to its values after reset, in STOPPED (R173). -/
theorem State.Sound.resetTrunk (h : s.Sound tended paired capped) (hclosed : ∀ k, s.pairing k = none)
    (station : Station) :
    State.Sound tended paired capped { s with
      station := station, link := .offline, silence := none, window := none, run := .stopped, sending := false
      responses := [] } :=
  h.halt rfl (fun _ => rfl) rfl hclosed

theorem State.Sound.takeReset (cause : ResetCause) (straps : Byte) (h : s.Sound tended paired capped) :
    (s.takeReset cause straps).Sound tended paired capped := by
  have hdenied : s.denyAllPairings.Sound tended paired capped :=
    foldl_keeps (fun _ k h => State.Sound.denyMembers k .pairingCancelled h) sixteen s h
  obtain ⟨hstopped, hpairings⟩ := hdenied.stopDoors
  have hclosed := State.foldl_closes (fun s k j => s.pairing_denyMembers k .pairingCancelled j) s
  have hreset (v : State) : (v.resetInputs.resetReaders.submit
      { kind := .controllerReset, detail := some cause.code }).account = v.account := by
    rw [State.account_submit, State.account_resetReaders, State.account_resetInputs]
  obtain ⟨-, -, hkept, -⟩ := State.account_eq_iff.mp (hreset s.denyAllPairings.dropAllReferences.stopDoors)
  refine (hstopped.frame (hreset _)).resetTrunk (fun k => ?_) _
  rw [State.pairing_congr (hkept.trans hpairings)]
  exact hclosed k

theorem State.Sound.enterMode (mode : DoorMode) (k : DoorNo) (h : s.Sound tended paired capped) :
    (s.enterMode mode k).Sound tended paired capped := by
  have hdropped := (h.cancelPairing k).dropReferences k
  cases mode with
  | normal => exact h
  | lockdown => exact hdropped.frame (State.account_modifyDoor _ (by simp))
  | outOfService =>
    refine hdropped.frame ?_
    rw [State.enterMode, State.leaveService, State.account_submitAll]
    exact State.account_modifyDoor _
      (DoorChannel.claims_park _ ((h.cancelPairing k).provisional_dropReferences k k (.inl rfl)))

theorem State.Sound.setMode (mode : DoorMode) (k : DoorNo) (h : s.Sound tended paired capped) :
    (s.setMode mode k).Sound tended paired capped := by
  unfold State.setMode
  dsimp only
  split
  · exact h
  · have hchanged : ((s.modifyDoor k fun d => { d with mode := mode }).submit (s.doorReport .doorModeChanged k
        (some ((s.door k).mode.number * 10 + mode.number)))).Sound tended paired capped := by
      refine h.frame ?_
      rw [State.account_submit]
      exact State.account_modifyDoor _ rfl
    split
    · exact (hchanged.enterMode mode k).frame (by simp)
    · exact hchanged.enterMode mode k

end

end Sys2Proof.Machine

namespace Sys2Proof.Machine

section
variable {tended paired capped : Prop} {s : State}

/-! ## Settings and START (R90, R121, R171) -/

/-- Settings of a room that fit its entries, while the controller is STOPPED (R90). -/
theorem State.Sound.setRoomSettings {r : RoomNo} {x : RoomSettings} (h : s.Sound tended paired capped)
    (hrun : s.run ≠ .running) (huse : x.inUse = false → (s.room r).entries = [])
    (hcap : (s.room r).entries.length ≤ x.cap) :
    ((s.modifyRoom r fun y => { y with settings := x }).supervise r).Sound tended paired capped := by
  have hroom (q : RoomNo) := s.room_modifyRoom r q fun y => { y with settings := x }
  have hentries (q : RoomNo) : ((s.modifyRoom r fun y => { y with settings := x }).room q).entries =
      (s.room q).entries := by
    rw [hroom]
    split
    next hq => rw [hq]
    next => rfl
  have htidy : (s.modifyRoom r fun y => { y with settings := x }).tidy :=
    State.tidy_of_stands h.tidy (fun q => by rw [hentries]) fun _ => rfl
  rw [State.supervise_eq_superviseAll]
  refine ⟨(State.tidy_superviseAll _ _).mpr htidy, fun hw => ?_, fun hp => ?_, fun hp hc => ⟨fun q => ?_, fun hr => ?_⟩⟩
  · refine State.supervisionWf_superviseAll (h.supervision hw) fun q hq => ?_
    rw [hroom, if_neg fun hrq => hq (by simp [hrq])]
    exact ⟨rfl, rfl⟩
  · obtain ⟨hwf, htotal⟩ := h.pairings hp
    refine ⟨(State.pairingsWf_congr (State.superviseAll_pairings _ _) (State.superviseAll_run _ _)).mpr hwf,
      le_trans (State.totalEntries_le fun q => ?_) htotal⟩
    rw [State.entries_superviseAll, hentries]
  · obtain ⟨hcaps, -⟩ := h.caps hp hc
    rw [State.entries_superviseAll, State.settings_superviseAll, hentries, hroom]
    split
    next hq => exact hq ▸ ⟨hcap, huse⟩
    next => exact hcaps q
  · rw [State.superviseAll_run] at hr
    exact absurd hr hrun

theorem State.Sound.ownSetRoom (payload : List Byte) (h : s.Sound tended paired capped) :
    (ownSetRoom payload s).2.Sound tended paired capped := by
  unfold Machine.ownSetRoom
  split
  · exact h
  next hrun =>
    split
    · exact h
    · split
      · split
        · exact h
        next hfit =>
          simp only [Bool.or_eq_true, Bool.and_eq_true, Bool.not_eq_true', decide_eq_true_eq, not_or, not_and,
            Nat.not_lt] at hfit
          exact h.setRoomSettings hrun (fun hunused => List.eq_nil_of_length_eq_zero (Nat.le_zero.mp (hfit.1 hunused)))
            hfit.2
      · exact h

/-- Settings of a door, while the controller is STOPPED (R121). -/
theorem State.Sound.setDoorSettings {k : DoorNo} (x : DoorSettings) (h : s.Sound tended paired capped)
    (hrun : s.run ≠ .running) :
    (s.modifyDoor k fun d => { d with settings := x, lock := x.parkLevel }).Sound tended paired capped := by
  have hlist (j : DoorNo) : ((s.modifyDoor k fun d => { d with settings := x, lock := x.parkLevel }).door j).provisional =
      (s.door j).provisional := by
    rw [State.door_modifyDoor]
    split
    next hj => rw [hj]
    next => rfl
  have hrooms : (s.modifyDoor k fun d => { d with settings := x, lock := x.parkLevel }).rooms = s.rooms := rfl
  have htidy := (State.tidy_congr hrooms hlist).mpr h.tidy
  refine ⟨htidy, h.supervision, h.pairings, fun hp hc => ?_⟩
  obtain ⟨hcaps, -⟩ := h.caps hp hc
  exact ⟨hcaps, fun hr => absurd hr hrun⟩

theorem State.Sound.ownSetDoor (payload : List Byte) (h : s.Sound tended paired capped) :
    (ownSetDoor payload s).2.Sound tended paired capped := by
  unfold Machine.ownSetDoor
  split
  · exact h
  next hrun =>
    split
    · exact h
    · split
      next k x _ _ =>
        have hset := h.setDoorSettings (k := k) x hrun
        have hforgotten := foldl_keeps (f := s.forgetReassigned)
          (P := State.Sound tended paired capped) (fun t a ht => ht.frame (t.account_forgetReassigned s a)) allReaders _ hset
        exact hforgotten.frame (by simp)
      · exact h

/-- The checks of START see to it that every channel in service names a room in use (R171). -/
theorem State.inUse_of_startFault (h : s.startFault = none) {k : DoorNo}
    (hk : (s.door k).settings.inService = true) : (s.room (s.roomOf k)).settings.inUse = true := by
  unfold State.startFault at h
  split at h
  · cases h
  next hnone =>
    have hall := List.find?_eq_none.mp hnone k (List.mem_filter.mpr ⟨mem_sixteen k, hk⟩)
    simpa using hall

theorem State.Sound.startRunning (h : s.Sound tended paired capped) (hfault : s.startFault = none) :
    s.startRunning.Sound tended paired capped := by
  have hrunning : State.Sound tended paired capped { s with run := .running } := by
    refine ⟨h.tidy, h.supervision, fun hp => ?_, fun hp hc => ?_⟩
    · obtain ⟨⟨hopen, hrecords, hnodup, -⟩, htotal⟩ := h.pairings hp
      exact ⟨⟨hopen, hrecords, hnodup, nofun⟩, htotal⟩
    · obtain ⟨hcaps, -⟩ := h.caps hp hc
      exact ⟨hcaps, fun _ _ hk => State.inUse_of_startFault hfault hk⟩
  exact foldl_keeps (fun t k ht => State.Sound.frame ht (t.account_settleServing k)) sixteen _
    (hrunning.frame (by simp))

theorem State.Sound.ownStart (payload : List Byte) (h : s.Sound tended paired capped) :
    (ownStart payload s).2.Sound tended paired capped := by
  unfold Machine.ownStart
  split
  · exact h
  · split
    · exact h
    next hfault =>
      dsimp only
      exact h.startRunning hfault

theorem State.Sound.ownStop (payload : List Byte) (h : s.Sound tended paired capped) :
    (ownStop payload s).2.Sound tended paired capped := by
  unfold Machine.ownStop
  split
  · exact h
  · dsimp only
    exact h.stopRunning

/-! ## The other requests -/

theorem State.Sound.ownClearOccupant (payload : List Byte) (h : s.Sound tended paired capped) :
    (ownClearOccupant payload s).2.Sound tended paired capped := by
  unfold Machine.ownClearOccupant
  split
  · exact h
  · split
    · exact h
    · split
      · exact h
      next r e hfound => exact h.clearEntry_supervise (State.of_findEntry hfound).1

theorem State.Sound.ownClearRoom (payload : List Byte) (h : s.Sound tended paired capped) :
    (ownClearRoom payload s).2.Sound tended paired capped := by
  unfold Machine.ownClearRoom
  split
  · split
    · exact h.clearRoom _
    · exact h
  · exact h

theorem State.account_placeRevocation (s : State) (c : Credential) : (s.placeRevocation c).account = s.account := by
  unfold State.placeRevocation
  split
  · rfl
  · split
    · rfl
    · unfold State.overflow
      dsimp only
      split
      · exact State.account_submit _ _
      · rfl

theorem State.Sound.ownRevoke (payload : List Byte) (h : s.Sound tended paired capped) :
    (ownRevoke payload s).2.Sound tended paired capped := by
  unfold Machine.ownRevoke
  split
  · exact h
  next c _ =>
    split
    · exact h
    · exact ((h.frame (s.account_placeRevocation c)).revokeMember c).revokeEntry c

theorem State.Sound.ownSetDoorMode (payload : List Byte) (h : s.Sound tended paired capped) :
    (ownSetDoorMode payload s).2.Sound tended paired capped := by
  unfold Machine.ownSetDoorMode
  split
  · split
    · exact foldl_keeps (fun _ k h => State.Sound.setMode _ k h) _ s h
    · exact h
  · exact h

theorem State.Sound.ownSetInput (payload : List Byte) (h : s.Sound tended paired capped) :
    (ownSetInput payload s).2.Sound tended paired capped := by
  unfold Machine.ownSetInput
  split
  · split
    · exact h
    · split
      · exact h.configureInput _ _ _
      · exact h
  · exact h

theorem State.Sound.markMinute (h : s.Sound tended paired capped) : s.markMinute.Sound tended paired capped := by
  have hmarked : (State.restartTimebase { s with clock := s.clock.marked }).Sound tended paired capped := h.frame rfl
  unfold State.markMinute
  dsimp only
  split
  · exact (hmarked.minuteSignal _).frame (State.account_dateChange _ _)
  · exact hmarked.frame (State.account_dateChange _ _)

theorem State.Sound.ownMinuteMark (payload : List Byte) (h : s.Sound tended paired capped) :
    (ownMinuteMark payload s).2.Sound tended paired capped := by
  unfold Machine.ownMinuteMark
  split
  · exact h
  · exact h.markMinute

/-! ## Requests that the account does not notice -/

theorem State.account_ownSetTime (s : State) (payload : List Byte) : (ownSetTime payload s).2.account = s.account := by
  unfold ownSetTime
  split
  · rfl
  · split
    · rw [State.stepTime, State.account_submit, State.account_dateChange]
      rfl
    · rfl

theorem State.account_ownSetController (s : State) (payload : List Byte) :
    (ownSetController payload s).2.account = s.account := by
  unfold ownSetController
  split
  · rfl
  · split <;> rfl

theorem State.account_ownOpenPermitWindow (s : State) (payload : List Byte) :
    (ownOpenPermitWindow payload s).2.account = s.account := by
  unfold ownOpenPermitWindow
  split
  · dsimp only
    split <;> rfl
  · rfl

theorem State.account_offerPermit (s : State) (w : PermitWindow) (p : PermitRecord) :
    (s.offerPermit w p).2.account = s.account := by
  unfold State.offerPermit
  split <;> rfl

theorem State.account_ownPermitRecord (s : State) (payload : List Byte) :
    (ownPermitRecord payload s).2.account = s.account := by
  unfold ownPermitRecord
  split
  · rfl
  · split
    · rfl
    · split
      · rfl
      · split
        · rfl
        · split
          · split
            · exact s.account_offerPermit _ _
            · rfl
          · rfl

theorem State.account_ownSlotState (s : State) (target : SlotState) (payload : List Byte) :
    (ownSlotState target payload s).2.account = s.account := by
  unfold ownSlotState
  dsimp only
  split
  · split <;> rfl
  · rfl

theorem State.account_ownWriteSchedule (s : State) (payload : List Byte) :
    (ownWriteSchedule payload s).2.account = s.account := by
  unfold ownWriteSchedule
  split
  · dsimp only
    split
    · split <;> rfl
    · rfl
  · rfl

theorem State.account_ownAddHoliday (s : State) (payload : List Byte) :
    (ownAddHoliday payload s).2.account = s.account := by
  unfold ownAddHoliday
  split
  · rfl
  · split
    · rfl
    · split <;> rfl

theorem State.account_ownRemoveHoliday (s : State) (payload : List Byte) :
    (ownRemoveHoliday payload s).2.account = s.account := by
  unfold ownRemoveHoliday
  split
  · rfl
  · split <;> rfl

theorem State.account_ownReinstate (s : State) (payload : List Byte) :
    (ownReinstate payload s).2.account = s.account := by
  unfold ownReinstate
  split
  · rfl
  · split
    · rfl
    · split
      · rfl
      · split <;> rfl

theorem State.account_ownReleaseDoor (s : State) (payload : List Byte) :
    (ownReleaseDoor payload s).2.account = s.account := by
  unfold ownReleaseDoor
  split
  · split
    · rfl
    · split
      · rfl
      · split
        · rfl
        · dsimp only
          rw [State.account_submit, State.account_requestRelease]
  · rfl

theorem State.account_ownSilence (s : State) (payload : List Byte) :
    (ownSilence payload s).2.account = s.account := by
  unfold ownSilence
  split
  · split
    · rfl
    · split
      · rfl
      · exact s.account_modifyDoor rfl
  · rfl

theorem State.account_ownCollect (s : State) (payload : List Byte) :
    (ownCollect payload s).2.account = s.account := by
  unfold ownCollect
  split <;> rfl

end

end Sys2Proof.Machine

namespace Sys2Proof.Machine

section
variable {tended paired capped : Prop} {s : State}

/-! ## Commands -/

/-- The owner of every kind of request keeps the account sound. -/
theorem State.Sound.owner (k : RequestKind) (payload : List Byte) (h : s.Sound tended paired capped) :
    (ownerOf k payload s).2.Sound tended paired capped := by
  cases k with
  | readStatus | readTime | readHolidays | reset => exact h
  | readSettings => exact (ownReadSettings_snd payload s).symm ▸ h
  | readPermit => exact (ownReadPermit_snd payload s).symm ▸ h
  | readSchedule => exact (ownReadSchedule_snd payload s).symm ▸ h
  | checkCredential => exact (ownCheckCredential_snd payload s).symm ▸ h
  | readRevocations => exact (ownReadRevocations_snd payload s).symm ▸ h
  | readRoom => exact (ownReadRoom_snd payload s).symm ▸ h
  | readDoor => exact (ownReadDoor_snd payload s).symm ▸ h
  | readInputs => exact (ownReadInputs_snd payload s).symm ▸ h
  | readReaders => exact (ownReadReaders_snd payload s).symm ▸ h
  | setController => exact h.frame (s.account_ownSetController payload)
  | start => exact h.ownStart payload
  | stop => exact h.ownStop payload
  | setTime => exact h.frame (s.account_ownSetTime payload)
  | minuteMark => exact h.ownMinuteMark payload
  | openPermitWindow => exact h.frame (s.account_ownOpenPermitWindow payload)
  | permitRecord => exact h.frame (s.account_ownPermitRecord payload)
  | suspendPermit => exact h.frame (s.account_ownSlotState .suspended payload)
  | resumePermit => exact h.frame (s.account_ownSlotState .active payload)
  | writeSchedule => exact h.frame (s.account_ownWriteSchedule payload)
  | addHoliday => exact h.frame (s.account_ownAddHoliday payload)
  | removeHoliday => exact h.frame (s.account_ownRemoveHoliday payload)
  | clearHolidays => exact h.frame rfl
  | revoke => exact h.ownRevoke payload
  | reinstate => exact h.frame (s.account_ownReinstate payload)
  | clearFilter => exact h.frame rfl
  | setRoom => exact h.ownSetRoom payload
  | clearOccupant => exact h.ownClearOccupant payload
  | clearRoom => exact h.ownClearRoom payload
  | setDoor => exact h.ownSetDoor payload
  | setDoorMode => exact h.ownSetDoorMode payload
  | releaseDoor => exact h.frame (s.account_ownReleaseDoor payload)
  | silence => exact h.frame (s.account_ownSilence payload)
  | setInput => exact h.ownSetInput payload
  | collect => exact h.frame (s.account_ownCollect payload)

theorem State.Sound.takeRequest (k : RequestKind) (r : Req) (h : s.Sound tended paired capped) :
    (takeRequest k r (ownerOf k) s).Sound tended paired capped :=
  takeRequest_keeps (fun t _ ht => State.Sound.frame ht (t.account_takeFrame _))
    (fun t _ _ _ ht => State.Sound.frame ht (t.account_respond _ _ _))
    (fun payload _ ht => State.Sound.owner k payload ht) h

theorem State.Sound.takeByKind (code : Byte) (r : Req) (h : s.Sound tended paired capped) :
    (s.takeByKind code r).Sound tended paired capped := by
  unfold State.takeByKind
  split
  · exact h.takeRequest _ r
  · unfold State.takeUnknown
    split
    · exact h.frame (by simp)
    · exact h

theorem State.Sound.withPins (h : s.Sound tended paired capped) (station : Station) (inputs : Vector InputLine 32)
    (pending : List Instr) :
    State.Sound tended paired capped { s with station := station, inputs := inputs, pending := pending } := h.frame rfl

theorem State.Sound.withPinHeld (h : s.Sound tended paired capped) (held : Bool) :
    State.Sound tended paired capped { s with pinHeld := held } := h.frame rfl

theorem State.sound_powerOn (straps : Byte) (closed : BitVec 32) :
    Leads (State.Sound tended paired capped) (execPowerOn straps closed s) := by
  have hreset : State.reset.Sound tended paired capped :=
    ⟨State.tidy_of_wf reset_occupancyWf reset_referencesWf, fun _ => reset_supervisionWf,
      fun _ => ⟨reset_pairingsWf, reset_occupancyWf.1⟩, fun _ _ => reset_capsWf⟩
  exact leads_next.mpr (hreset.withPins _ _ _)

theorem State.Sound.resetPin (straps : Byte) (h : s.Sound tended paired capped) :
    Leads (State.Sound tended paired capped) (execResetPin straps s) := by
  unfold execResetPin
  split
  · exact leads_next.mpr h
  · exact leads_next.mpr ((h.takeReset .pin straps).withPinHeld true)

theorem State.Sound.resetPinRelease (h : s.Sound tended paired capped) :
    Leads (State.Sound tended paired capped) (execResetPinRelease s) := by
  unfold execResetPinRelease
  split
  · refine leads_next.mpr (State.Sound.beginInputs (h.frame ?_))
    rw [State.account_restartLoop]
    rfl
  · exact leads_next.mpr h

theorem State.Sound.secondTick (h : s.Sound tended paired capped) :
    Leads (State.Sound tended paired capped) (execSecondTick s) := by
  have hticked : (s.tickClock.reportUnset s.clock.state).Sound tended paired capped := by
    refine h.frame ?_
    rw [State.account_reportUnset]
    rfl
  unfold execSecondTick
  dsimp only
  refine leads_next.mpr (State.Sound.frame ?_ (State.account_dateChange _ _))
  split
  · exact hticked
  · exact hticked.minuteSignal _

theorem State.Sound.responseSent (straps : Byte) (h : s.Sound tended paired capped) :
    Leads (State.Sound tended paired capped) (execResponseSent straps s) := by
  unfold execResponseSent
  split
  next x rest _ _ =>
    have hsent : State.Sound tended paired capped { s with sending := false, responses := rest } := h.frame rfl
    dsimp only
    split
    · exact leads_next.mpr
        (State.Sound.beginInputs ((hsent.takeReset .request straps).frame (State.account_restartLoop _)))
    · exact leads_next.mpr hsent
  · exact leads_next.mpr h

theorem State.Sound.quietIntervalExpiry (h : s.Sound tended paired capped) :
    Leads (State.Sound tended paired capped) (execQuietIntervalExpiry s) := by
  unfold execQuietIntervalExpiry
  split
  · dsimp only
    split
    · exact leads_next.mpr (h.frame (State.account_beginRound _))
    · exact leads_next.mpr (h.frame rfl)
  · exact leads_next.mpr h
  · exact leads_next.mpr h

theorem State.Sound.silenceTimeout (h : s.Sound tended paired capped) :
    Leads (State.Sound tended paired capped) (execSilenceTimeout s) := by
  unfold execSilenceTimeout
  split
  · exact leads_next.mpr h
  next deadline _ => exact leads_next.mpr (h.frame (State.account_submit (s.reach deadline) _))

theorem State.Sound.replyReceived (bytes : List Byte) (h : s.Sound tended paired capped) :
    Leads (State.Sound tended paired capped) (execReplyReceived bytes s) := by
  unfold execReplyReceived
  split
  next a _ _ _ => exact leads_next.mpr ((h.actOnReply a (judgeReply a bytes)).frame (State.account_advanceLoop _))
  · exact leads_next.mpr h
  · exact leads_next.mpr h

theorem State.Sound.replyWindowExpiry (h : s.Sound tended paired capped) :
    Leads (State.Sound tended paired capped) (execReplyWindowExpiry s) := by
  unfold execReplyWindowExpiry
  split
  · exact leads_next.mpr (h.frame (by simp))
  · exact leads_next.mpr h
  · exact leads_next.mpr h

theorem State.Sound.pairingDeadlineExpiry (k : DoorNo) (h : s.Sound tended paired capped) :
    Leads (State.Sound tended paired capped) (execPairingDeadlineExpiry k s) := by
  unfold execPairingDeadlineExpiry
  split
  · exact leads_next.mpr h
  next p _ =>
    have hreached : (s.reach p.deadline).Sound tended paired capped := h.frame rfl
    exact leads_next.mpr ((hreached.denyMembers k .pairingTimeout).frame (State.account_postAtDoor _ _ _))

theorem State.Sound.releaseTimerExpiry (k : DoorNo) (h : s.Sound tended paired capped) :
    Leads (State.Sound tended paired capped) (execReleaseTimerExpiry k s) := by
  unfold execReleaseTimerExpiry
  split
  · exact leads_next.mpr h
  next deadline _ =>
    have hreached : (s.reach deadline).Sound tended paired capped := h.frame rfl
    exact leads_next.mpr ((hreached.dropReferences k).frame (State.account_modifyDoor _ (by simp)))

theorem State.Sound.egressTimerExpiry (k : DoorNo) (h : s.Sound tended paired capped) :
    Leads (State.Sound tended paired capped) (execEgressTimerExpiry k s) := by
  unfold execEgressTimerExpiry
  split
  · exact leads_next.mpr h
  next deadline _ =>
    have hreached : (s.reach deadline).Sound tended paired capped := h.frame rfl
    exact leads_next.mpr (hreached.frame (State.account_modifyDoor _ (by simp)))

theorem State.Sound.openAllowanceExpiry (k : DoorNo) (h : s.Sound tended paired capped) :
    Leads (State.Sound tended paired capped) (execOpenAllowanceExpiry k s) := by
  unfold execOpenAllowanceExpiry
  split
  · exact leads_next.mpr h
  next deadline _ =>
    have hreached : (s.reach deadline).Sound tended paired capped := h.frame rfl
    have hexpired : ((s.reach deadline).modifyDoor k DoorChannel.allowanceExpired).Sound tended paired capped :=
      hreached.frame (State.account_modifyDoor _ (by simp))
    dsimp only
    split
    · exact leads_next.mpr (hexpired.frame (by simp))
    · exact leads_next.mpr hexpired

theorem State.Sound.contactChange (i : InputNo) (contact : Contact) (h : s.Sound tended paired capped) :
    Leads (State.Sound tended paired capped) (execContactChange i contact s) := by
  have hmoved : (s.modifyInput i fun x => { x with contact := contact }).Sound tended paired capped := h.frame rfl
  unfold execContactChange
  split
  · exact leads_next.mpr h
  · dsimp only
    split
    · exact leads_next.mpr (hmoved.contactMoved i)
    · exact leads_next.mpr hmoved

theorem State.Sound.steadyTimerExpiry (i : InputNo) (h : s.Sound tended paired capped) :
    Leads (State.Sound tended paired capped) (execSteadyTimerExpiry i s) := by
  unfold execSteadyTimerExpiry
  split
  · exact leads_next.mpr h
  · exact leads_next.mpr (State.Sound.acceptLevel i _ (h.frame rfl))

theorem State.Sound.scannerPass (values : Vector (BitVec 10) 32) (h : s.Sound tended paired capped) :
    Leads (State.Sound tended paired capped) (execScannerPass values s) := by
  unfold execScannerPass
  split
  · exact leads_next.mpr h
  · exact leads_next.mpr
      (foldl_keeps (fun _ i h => State.Sound.scanInput values i h) allInputs _ (h.frame rfl))

theorem State.Sound.responseStart (h : s.Sound tended paired capped) :
    Leads (State.Sound tended paired capped) (execResponseStart s) := by
  unfold execResponseStart
  split
  · exact leads_next.mpr h
  · exact leads_next.mpr (h.frame rfl)

/-- Every command keeps the account sound. -/
theorem State.Sound.exec (c : Instr) (h : s.Sound tended paired capped) :
    Leads (State.Sound tended paired capped) (exec c s) := by
  rcases eq_command_or_request_eq_none c with ⟨k, r, rfl⟩ | hnone
  · rw [exec_request]
    exact leads_next.mpr (h.takeRequest k r)
  · cases c with
    | powerOn straps closed => exact State.sound_powerOn straps closed
    | resetPin straps => exact h.resetPin straps
    | resetPinRelease => exact h.resetPinRelease
    | secondTick => exact h.secondTick
    | frameDiscarded frame =>
      refine leads_next.mpr ?_
      unfold State.hearFrame
      split
      · exact h.takeByKind _ _
      · exact h
    | unknownKind code r => exact leads_next.mpr (h.takeByKind code r)
    | responseSent straps => exact h.responseSent straps
    | silenceTimeout => exact h.silenceTimeout
    | replyReceived bytes => exact h.replyReceived bytes
    | replyWindowExpiry => exact h.replyWindowExpiry
    | quietIntervalExpiry => exact h.quietIntervalExpiry
    | pairingDeadlineExpiry k => exact h.pairingDeadlineExpiry k
    | releaseTimerExpiry k => exact h.releaseTimerExpiry k
    | egressTimerExpiry k => exact h.egressTimerExpiry k
    | openAllowanceExpiry k => exact h.openAllowanceExpiry k
    | contactChange i contact => exact h.contactChange i contact
    | steadyTimerExpiry i => exact h.steadyTimerExpiry i
    | scannerPass values => exact h.scannerPass values
    | responseStart => exact h.responseStart
    | _ => cases hnone

end

theorem kept_sound (tended paired capped : Prop) : Kept (State.Sound tended paired capped) :=
  kept_of_exec (fun _ h => h.frame rfl) (fun _ _ h => h.frame rfl) fun c _ h => h.exec c

/-- Settles O34: every step keeps a sound account sound, and a state in which the account is exact is sound for what it
has. -/
theorem occupancyStaysExact : Obligations.OccupancyStaysExact := by
  unfold Obligations.OccupancyStaysExact
  refine ⟨fun s t ⟨hwf, href, hpairings⟩ hst => ?_, fun s t hwf href hst => ?_⟩
  · have hs : s.Sound False True False :=
      ⟨State.tidy_of_wf hwf href, False.elim, fun _ => ⟨hpairings, hwf.1⟩, fun _ => False.elim⟩
    have ht := kept_sound _ _ _ s t hs hst
    obtain ⟨hpairings', htotal⟩ := ht.pairings trivial
    exact ⟨⟨htotal, ht.tidy.1⟩, ht.tidy.2, hpairings'⟩
  · have hs : s.Sound s.supervisionWf s.pairingsWf s.capsWf :=
      ⟨State.tidy_of_wf hwf href, id, fun hpairings => ⟨hpairings, hwf.1⟩, fun _ => id⟩
    have ht := kept_sound _ _ _ s t hs hst
    exact ⟨ht.supervision, ht.caps⟩

end Sys2Proof.Machine

/-! # Exits (O50) -/

namespace Sys2Proof.Machine

/-! ## The removal (R66, R86, R96) -/

section
variable {s : State} {k : DoorNo} {a : ReaderNo} {c : Credential}

/-- The EXIT record of an entry: its own door, and the reader of the presentation (R66, R96). -/
def exitReport (r : RoomNo) (a : ReaderNo) (e : Entry) : Report := { removalReport .exit r e with reader := some a }

/-- The EXIT_UNMATCHED record of a presentation (R66). -/
def State.unmatchedReport (s : State) (k : DoorNo) (a : ReaderNo) (c : Credential) : Report :=
  { kind := .exitUnmatched, door := some k, room := some (s.roomOf k), reader := some a, credential := some c }

theorem State.exitRemoval_of_inside {e : Entry} (h : (s.room (s.roomOf k)).entryOf c = some e) :
    s.exitRemoval k a c =
      ((s.dropEntry (s.roomOf k) e).submit (exitReport (s.roomOf k) a e)).supervise (s.roomOf k) := by
  simp [State.exitRemoval, h, exitReport]

theorem State.exitRemoval_of_outside (h : (s.room (s.roomOf k)).entryOf c = none) :
    s.exitRemoval k a c = s.submit (s.unmatchedReport k a c) := by
  simp [State.exitRemoval, h, State.unmatchedReport]

theorem Room.entryOf_eq_none_iff {x : Room} : x.entryOf c = none ↔ ∀ e ∈ x.entries, e.credential ≠ c := by
  simp [Room.entryOf]

theorem Room.of_entryOf {x : Room} {e : Entry} (h : x.entryOf c = some e) : e ∈ x.entries ∧ e.credential = c :=
  ⟨List.mem_of_find?_eq_some h, by simpa using List.find?_some h⟩

/-- An exit takes the credential's entries out of the door's room, and out of no other (R66). -/
theorem State.entries_exitRemoval (p : RoomNo) :
    ((s.exitRemoval k a c).room p).entries = if p = s.roomOf k then
      (s.room p).entries.filter (fun e => e.credential ≠ c) else (s.room p).entries := by
  cases h : (s.room (s.roomOf k)).entryOf c with
  | none =>
    rw [State.exitRemoval_of_outside h, State.submit_room]
    split
    next hp =>
      subst hp
      exact (List.filter_eq_self.mpr fun e he => by simpa using Room.entryOf_eq_none_iff.mp h e he).symm
    next => rfl
  | some e =>
    obtain ⟨-, rfl⟩ := Room.of_entryOf h
    rw [State.exitRemoval_of_inside h, State.entries_supervise, State.submit_room, State.room_dropEntry]
    by_cases hp : s.roomOf k = p
    · rw [if_pos hp, if_pos hp.symm, hp]
    · rw [if_neg hp, if_neg (Ne.symm hp)]

/-- Everything that the removal of an exit can do: rooms, doors and records. -/
theorem State.exitRemoval_form : ∃ rooms doors q n l, s.exitRemoval k a c =
    { s with rooms := rooms, doors := doors, queue := q, nextSequence := n, lost := l } := by
  cases h : (s.room (s.roomOf k)).entryOf c with
  | none =>
    rw [State.exitRemoval_of_outside h]
    obtain ⟨q, n, l, hform⟩ := State.submit_form s (s.unmatchedReport k a c)
    exact ⟨s.rooms, s.doors, q, n, l, hform⟩
  | some e =>
    rw [State.exitRemoval_of_inside h, State.supervise_eq_superviseAll]
    obtain ⟨_, _, hdrop⟩ := s.dropEntry_form (s.roomOf k) e
    obtain ⟨_, _, _, hsubmit⟩ := State.submit_form (s.dropEntry (s.roomOf k) e) (exitReport (s.roomOf k) a e)
    obtain ⟨_, _, _, _, hchecked⟩ := State.superviseAll_form [s.roomOf k]
      ((s.dropEntry (s.roomOf k) e).submit (exitReport (s.roomOf k) a e))
    rw [hchecked, hsubmit, hdrop]
    exact ⟨_, _, _, _, _, rfl⟩

/-- The records of an exit that finds an entry: EXIT, and what the check after it gives (R66, R86). -/
theorem State.desk_exitRemoval_of_inside {e : Entry} (h : (s.room (s.roomOf k)).entryOf c = some e) :
    (s.exitRemoval k a c).desk = (s.desk.submit (exitReport (s.roomOf k) a e)).submitAll
      (s.checkReport (s.exitRemoval k a c) (s.roomOf k)) := by
  have hsupervision : (((s.dropEntry (s.roomOf k) e).submit (exitReport (s.roomOf k) a e)).room
      (s.roomOf k)).supervision = (s.room (s.roomOf k)).supervision := by
    rw [State.submit_room, State.room_dropEntry, if_pos rfl]
  rw [State.exitRemoval_of_inside h, State.desk_supervise hsupervision, State.desk_submit, State.desk_dropEntry]

/-- The door's list loses the credential's reference, and nothing else moves at a door (R96, R136). -/
theorem State.door_exitRemoval (hwf : s.occupancyWf) (href : s.referencesWf) (j : DoorNo) :
    (s.exitRemoval k a c).door j = { s.door j with
      provisional := if ∃ e ∈ (s.room (s.roomOf k)).entries, e.credential = c then
        (s.door j).provisional.filter (· ≠ c) else (s.door j).provisional } := by
  cases h : (s.room (s.roomOf k)).entryOf c with
  | none =>
    have houtside : ¬∃ e ∈ (s.room (s.roomOf k)).entries, e.credential = c := fun ⟨e, he, hc⟩ =>
      Room.entryOf_eq_none_iff.mp h e he hc
    rw [State.exitRemoval_of_outside h, State.submit_door, if_neg houtside]
  | some e =>
    obtain ⟨he, hc⟩ := Room.of_entryOf h
    rw [State.exitRemoval_of_inside h, State.supervise_eq_superviseAll, State.door_superviseAll, State.submit_door,
      State.door_dropEntry_of_wf hwf he href, if_pos ⟨e, he, hc⟩, hc]

/-! ## The release (R67, R127) -/

/-- An exit presentation is its removal and its indication, but for what a release does at the doors (R66, R67). -/
theorem State.exitPresentation_form :
    ∃ doors, s.exitPresentation k a c = { (s.exitRemoval k a c).post a .exit with doors := doors } := by
  unfold State.exitPresentation
  dsimp only
  split
  · exact ⟨_, rfl⟩
  · exact ⟨_, rfl⟩

theorem State.exitReleases_iff : s.exitReleases k = true ↔
    (s.door k).settings.exitReleases = true ∧ s.run = .running ∧ (s.door k).mode ≠ .outOfService := by
  simp [State.exitReleases, and_assoc]

theorem State.exitRemoval_now : (s.exitRemoval k a c).now = s.now := by
  obtain ⟨_, _, _, _, _, h⟩ := State.exitRemoval_form (s := s) (k := k) (a := a) (c := c)
  rw [h]

theorem State.post_now (s : State) (a : ReaderNo) (ind : Indication) : (s.post a ind).now = s.now := by
  obtain ⟨_, h⟩ := s.post_form a ind
  rw [h]

/-- Where an exit asks for a release it is taken, and only at the door of the presentation (R67, R127). -/
theorem State.door_exitPresentation (hidle : s.exitReleases k = true → ((s.exitRemoval k a c).door k).state ≠ .idle)
    (hlist : ((s.exitRemoval k a c).door k).provisional.length ≤ 8) (j : DoorNo) :
    (s.exitPresentation k a c).door j =
      if j = k ∧ s.exitReleases k = true then ((s.exitRemoval k a c).door k).releasing s.now
      else (s.exitRemoval k a c).door j := by
  have hpost (i : DoorNo) : ((s.exitRemoval k a c).post a .exit).door i = (s.exitRemoval k a c).door i :=
    State.door_congr (State.post_doors _ _ _) i
  unfold State.exitPresentation
  dsimp only
  by_cases hreleases : s.exitReleases k = true
  · have hanswer := DoorChannel.requestRelease_eq ((s.exitRemoval k a c).door k) s.now 0 (hidle hreleases)
      fun _ => hlist
    have hnow : ((s.exitRemoval k a c).post a .exit).now = s.now := (State.post_now _ _ _).trans State.exitRemoval_now
    rw [if_pos hreleases, State.requestRelease, State.door_setDoor, hpost, hpost, hnow, hanswer]
    by_cases hj : j = k
    · simp only [hj, hreleases, and_self, if_true]
    · simp only [hj, Ne.symm hj, false_and, if_false]
  · rw [if_neg hreleases, if_neg (fun h => hreleases h.2), hpost]

end

/-- The part after an exit presentation has been taken and the loop has gone on (R66, R157). -/
def State.exited (s : State) (k : DoorNo) (a : ReaderNo) (c : Credential) : State :=
  ((s.presented a c).exitPresentation k a c).advanceLoop

section
variable {s : State} {k : DoorNo} {a : ReaderNo} {c : Credential}

theorem exec_exit {ind : Option Indication} {ends : Nat} (hloop : s.loop = .poll a ind ends)
    (hassignment : s.assignment a = some (k, .exit)) (hrepeats : s.repeats a c = false) :
    exec (.replyReceived (replyFrame a (s.reader a).tamper (some c))) s = .next (s.exited k a c) := by
  have hpresent : (s.presented a c).present a c = (s.presented a c).exitPresentation k a c := by
    simp [State.present, hassignment]
  rw [exec_replyReceived_presentation hloop hrepeats, hpresent, State.exited]

/-- The rooms of an exit are those of its removal. -/
theorem State.room_exited (p : RoomNo) :
    (s.exited k a c).room p = ((s.presented a c).exitRemoval k a c).room p := by
  obtain ⟨_, h⟩ := State.exitPresentation_form (s := s.presented a c) (k := k) (a := a) (c := c)
  refine State.room_congr ?_ p
  rw [State.exited, State.advanceLoop_rooms, h]
  exact State.post_rooms _ _ _

theorem State.presented_room (p : RoomNo) : (s.presented a c).room p = s.room p :=
  State.room_congr (s.presented_rooms a c) p

theorem State.entries_exited (p : RoomNo) :
    ((s.exited k a c).room p).entries = if p = s.roomOf k then
      (s.room p).entries.filter (fun e => e.credential ≠ c) else (s.room p).entries := by
  rw [State.room_exited, State.entries_exitRemoval, State.presented_roomOf, State.presented_room]

theorem State.exited_permits : (s.exited k a c).permits = s.permits := by
  obtain ⟨_, h⟩ := State.exitPresentation_form (s := s.presented a c) (k := k) (a := a) (c := c)
  obtain ⟨_, _, _, _, _, hremoval⟩ := State.exitRemoval_form (s := s.presented a c) (k := k) (a := a) (c := c)
  rw [State.exited, State.advanceLoop_permits, h]
  dsimp only
  rw [State.post_permits, hremoval]
  exact s.presented_permits a c

theorem State.exited_pairings : (s.exited k a c).pairings = s.pairings := by
  obtain ⟨_, h⟩ := State.exitPresentation_form (s := s.presented a c) (k := k) (a := a) (c := c)
  obtain ⟨_, _, _, _, _, hremoval⟩ := State.exitRemoval_form (s := s.presented a c) (k := k) (a := a) (c := c)
  rw [State.exited, State.advanceLoop_pairings, h]
  dsimp only
  rw [State.post_pairings, hremoval]
  exact s.presented_pairings a c

theorem State.reader_exitPresentation (b : ReaderNo) :
    (s.exitPresentation k a c).reader b = ((s.exitRemoval k a c).post a .exit).reader b := by
  obtain ⟨_, h⟩ := State.exitPresentation_form (s := s) (k := k) (a := a) (c := c)
  rw [h]
  rfl

theorem State.reader_exitRemoval (b : ReaderNo) : (s.exitRemoval k a c).reader b = s.reader b := by
  obtain ⟨_, _, _, _, _, h⟩ := State.exitRemoval_form (s := s) (k := k) (a := a) (c := c)
  rw [h]
  rfl

theorem State.exited_last : ((s.exited k a c).reader a).last = some ⟨c, s.now⟩ := by
  rw [State.exited, State.advanceLoop_reader_last, State.reader_exitPresentation, State.post_reader_last,
    State.reader_exitRemoval, State.presented_reader]

theorem State.doorSettings_exitRemoval (j : DoorNo) :
    ((s.exitRemoval k a c).door j).settings = (s.door j).settings := by
  cases h : (s.room (s.roomOf k)).entryOf c with
  | none => rw [State.exitRemoval_of_outside h, State.submit_door]
  | some e =>
    rw [State.exitRemoval_of_inside h, State.supervise_eq_superviseAll, State.door_superviseAll, State.submit_door,
      State.door_dropEntry]

/-- The reader of the exit is told so (R66, R164). -/
theorem State.exited_tells (hassignment : s.assignment a = some (k, .exit)) : (s.exited k a c).tells a .exit := by
  have hremoved : ((s.presented a c).exitRemoval k a c).assignment a = some (k, .exit) := by
    rw [State.assignment_congr State.doorSettings_exitRemoval, State.presented_assignment, hassignment]
  have honline : (((s.presented a c).exitRemoval k a c).reader a).state ≠ .offline := by
    rw [State.reader_exitRemoval, State.presented_reader]
    simp
  refine State.advanceLoop_tells ?_
  rw [State.reader_exitPresentation, State.post_of_reached hremoved honline, State.reader_modifyReader, if_pos rfl]

theorem State.desk_exited : (s.exited k a c).desk = ((s.presented a c).exitRemoval k a c).desk := by
  obtain ⟨_, h⟩ := State.exitPresentation_form (s := s.presented a c) (k := k) (a := a) (c := c)
  rw [State.exited, State.desk_advanceLoop, h]
  exact State.desk_post _ _ _

theorem Room.entryOf_of_first {x : Room} {e : Entry} {before after : List Entry}
    (h : x.entries = before ++ e :: after) (hc : e.credential = c) (hfirst : ∀ y ∈ before, y.credential ≠ c) :
    x.entryOf c = some e := by
  rw [Room.entryOf, List.find?_eq_some_iff_append, h]
  exact ⟨by simpa using hc, before, after, rfl, fun y hy => by simpa using hfirst y hy⟩

theorem State.queue_exited_of_inside {e : Entry} (hstate : (s.reader a).state ≠ .offline)
    (h : (s.room (s.roomOf k)).entryOf c = some e) :
    (s.exited k a c).queue = (s.submitAll (exitReport (s.roomOf k) a e ::
      s.checkReport (s.exited k a c) (s.roomOf k))).queue := by
  have hentry : ((s.presented a c).room ((s.presented a c).roomOf k)).entryOf c = some e := by
    rw [State.presented_roomOf, State.presented_room, h]
  have hreport : (s.presented a c).checkReport ((s.presented a c).exitRemoval k a c) (s.roomOf k) =
      s.checkReport (s.exited k a c) (s.roomOf k) :=
    State.checkReport_congr (by rw [State.presented_room]) (by rw [State.room_exited]) (by rw [State.room_exited])
  refine State.queue_eq_of_desk_eq ?_
  rw [State.desk_exited, State.desk_exitRemoval_of_inside hentry, State.presented_roomOf, hreport,
    State.desk_presented hstate, State.desk_submitAll, Desk.submitAll_cons]

theorem State.queue_exited_of_outside (hstate : (s.reader a).state ≠ .offline)
    (h : ∀ e ∈ (s.room (s.roomOf k)).entries, e.credential ≠ c) :
    (s.exited k a c).queue = (s.submit (s.unmatchedReport k a c)).queue := by
  have hentry : ((s.presented a c).room ((s.presented a c).roomOf k)).entryOf c = none := by
    rw [State.presented_roomOf, State.presented_room, Room.entryOf_eq_none_iff]
    exact h
  refine State.queue_eq_of_desk_eq ?_
  rw [State.desk_exited, State.exitRemoval_of_outside hentry, State.desk_submit, State.desk_presented hstate,
    State.desk_submit, State.unmatchedReport, State.presented_roomOf, State.unmatchedReport]

/-- Noting a presentation keeps the account and the references as they are. -/
theorem State.presented_wf : ((s.presented a c).occupancyWf ↔ s.occupancyWf) ∧
    ((s.presented a c).referencesWf ↔ s.referencesWf) :=
  ⟨iff_of_eq (Aside.presented (f := State.occupancyWf) (fun _ _ _ _ _ => rfl) s a c),
    iff_of_eq (Aside.presented (f := State.referencesWf) (fun _ _ _ _ _ => rfl) s a c)⟩

/-- The doors once the entry of an exit has gone, before the release (R96, R136). -/
theorem State.door_presented_exitRemoval (hwf : s.occupancyWf) (href : s.referencesWf) (j : DoorNo) :
    ((s.presented a c).exitRemoval k a c).door j = { s.door j with
      provisional := if ∃ e ∈ (s.room (s.roomOf k)).entries, e.credential = c then
        (s.door j).provisional.filter (· ≠ c) else (s.door j).provisional } := by
  have hwf' : (s.presented a c).occupancyWf := State.presented_wf.1.mpr hwf
  have href' : (s.presented a c).referencesWf := State.presented_wf.2.mpr href
  rw [State.door_exitRemoval hwf' href', State.presented_door, State.presented_roomOf, State.presented_room]

theorem State.door_exited (hwf : s.occupancyWf) (href : s.referencesWf) (hdoors : s.doorsWf)
    (hassignment : s.assignment a = some (k, .exit)) (j : DoorNo) :
    (s.exited k a c).door j = if j = k ∧ s.exitReleases k = true then
      ((s.presented a c).exitRemoval k a c |>.door k).releasing s.now
      else ((s.presented a c).exitRemoval k a c).door j := by
  obtain ⟨⟨-, -, -, -, -, hlength, -, -⟩, hserves⟩ := hdoors k
  have hdoor := State.door_presented_exitRemoval (k := k) (a := a) (c := c) hwf href k
  have hreleases : (s.presented a c).exitReleases k = s.exitReleases k :=
    Aside.presented (f := (·.exitReleases k)) (fun _ _ _ _ _ => rfl) s a c
  have hnow : (s.presented a c).now = s.now := Aside.presented (f := (·.now)) (fun _ _ _ _ _ => rfl) s a c
  have htaken := State.door_exitPresentation (s := s.presented a c) (k := k) (a := a) (c := c)
    (fun h => by
      obtain ⟨-, hrun, hmode⟩ := State.exitReleases_iff.mp (hreleases ▸ h)
      rw [hdoor]
      refine hserves.mpr ⟨hrun, ?_⟩
      simp [DoorChannel.serves, State.inService_of_assignment hassignment, hmode])
    (by
      rw [hdoor]
      dsimp only
      split
      · exact (List.length_filter_le _ _).trans hlength
      · exact hlength) j
  rw [← hreleases, ← hnow, ← htaken]
  exact State.door_congr (State.advanceLoop_doors _) j

/-- Settles O50: the equation of each part of the state after an exit presentation. -/
theorem exitsAreTaken : Obligations.ExitsAreTaken := by
  intro s a k c ind ends hloop hassignment hrepeats
  refine ⟨s.exited k a c, exec_exit hloop hassignment hrepeats, State.entries_exited, State.exited_permits,
    State.exited_pairings, State.exited_last, State.exited_tells hassignment, fun hstate => ⟨?_, ?_⟩, ?_⟩
  · intro e before after hentries hc hfirst
    have hqueue := State.queue_exited_of_inside (s := s) (k := k) hstate (Room.entryOf_of_first hentries hc hfirst)
    subst hc
    exact hqueue
  · exact State.queue_exited_of_outside hstate
  · intro hwf href hdoors j
    dsimp only
    rw [State.door_exited hwf href hdoors hassignment, State.door_presented_exitRemoval hwf href,
      State.door_presented_exitRemoval hwf href]
    simp only [State.exitReleases_iff]
    by_cases hj : j = k
    · subst hj; rfl
    · simp only [hj, false_and, if_false]

end

end Sys2Proof.Machine

/-! # Door positions (O43) -/

namespace Sys2Proof.Machine

/-! ## Repeated supervision checks (R86) -/

section
variable {s : State} {q : RoomNo}

/-- The check of a room that already stands as it should changes nothing and gives no record (R86). -/
theorem State.supervise_of_checked (h : (s.room q).supervised = s.room q) : s.supervise q = s := by
  have hstands : (s.room q).supervision = if (s.room q).isUnescorted = true then .unescorted else .clear :=
    (congrArg Room.supervision h).symm
  have hreport : s.checkReport s q = [] := by
    rw [State.checkReport, State.leftAlone_eq, hstands]
    cases (s.room q).isUnescorted <;> rfl
  rw [State.supervise_eq, h, State.setRoom_self, hreport]
  rfl

/-- Later checks of a room that has been checked can be left out (R86). -/
theorem State.superviseAll_filter (l : List RoomNo) (s : State) (h : (s.room q).supervised = s.room q) :
    s.superviseAll l = s.superviseAll (l.filter fun p => !p == q) := by
  induction l generalizing s with
  | nil => rfl
  | cons p l ih =>
    have hcons (m : List RoomNo) : s.superviseAll (p :: m) = (s.supervise p).superviseAll m := rfl
    by_cases hp : p = q
    · subst hp
      rw [hcons, State.supervise_of_checked h, ih s h]
      simp
    · have hchecked : ((s.supervise p).room q).supervised = (s.supervise p).room q := by
        rw [State.room_supervise, if_neg hp, h]
      rw [hcons, ih _ hchecked, ← hcons]
      simp [hp]

/-- A room is checked once, however often it is named (R86). -/
theorem State.superviseAll_eraseDups (l : List RoomNo) (s : State) :
    s.superviseAll l = s.superviseAll l.eraseDups := by
  match l with
  | [] => rfl
  | q :: l =>
    have hchecked : ((s.supervise q).room q).supervised = (s.supervise q).room q := by
      rw [State.room_supervise, if_pos rfl, Room.supervised_supervised]
    have hshorter : (l.filter fun p => !p == q).length ≤ l.length :=
      List.length_filter_le _ _
    calc s.superviseAll (q :: l) = (s.supervise q).superviseAll l := rfl
      _ = (s.supervise q).superviseAll (l.filter fun p => !p == q) := State.superviseAll_filter l _ hchecked
      _ = (s.supervise q).superviseAll (l.filter fun p => !p == q).eraseDups :=
        State.superviseAll_eraseDups (l.filter fun p => !p == q) _
      _ = s.superviseAll (q :: l).eraseDups := by rw [List.eraseDups_cons]; rfl
termination_by l.length

theorem nodup_eraseDups {α : Type} [BEq α] [LawfulBEq α] (l : List α) : l.eraseDups.Nodup := by
  match l with
  | [] => exact List.nodup_nil
  | q :: l =>
    have hshorter : (l.filter fun p => !p == q).length ≤ l.length :=
      List.length_filter_le _ _
    rw [List.eraseDups_cons, List.nodup_cons]
    exact ⟨by simp, nodup_eraseDups (l.filter fun p => !p == q)⟩
termination_by l.length

/-- The records of several checks: one check for each room named, in the order of the first mentions (R86). -/
theorem State.desk_superviseAll_eraseDups (l : List RoomNo) (s : State) :
    (s.superviseAll l).desk = s.desk.submitAll (l.eraseDups.flatMap (s.checkReport s)) := by
  rw [State.superviseAll_eraseDups, State.desk_superviseAll (nodup_eraseDups l)]

end

/-! ## Confirmations at an opening (R95) -/

section
variable {s : State} {k : DoorNo}

/-- The rooms that a door's references lead to hold entries that wait at it (R94). -/
theorem State.tidy.of_mem_referencedRooms (h : s.tidy) {r : RoomNo} (hr : r ∈ s.referencedRooms k) :
    ∃ e ∈ (s.room r).entries, e.state = .provisional ∧ e.door = k := by
  obtain ⟨c, hc, hroom⟩ := List.mem_filterMap.mp hr
  obtain ⟨p, e, he, rfl, hstate, rfl⟩ := h.exists_of_reference hc
  rw [h.1.referenced_of_mem he hstate] at hroom
  obtain rfl : p = r := by simpa using hroom
  exact ⟨e, he, hstate, rfl⟩

/-- A room that was right and is as unescorted as it was gives no record (R86). -/
theorem State.checkReport_of_unchanged {t : State} {q : RoomNo} (hw : s.supervisionWf)
    (h : (t.room q).isUnescorted = (s.room q).isUnescorted) : s.checkReport t q = [] := by
  have hright := hw q
  rw [State.checkReport, State.leftAlone_eq, h]
  cases hu : (s.room q).isUnescorted <;> cases hs : (s.room q).supervision <;> simp_all

/-- The list of a door emptied and its entries confirmed, before the checks (R95). -/
def State.confirming (s : State) (k : DoorNo) : State :=
  ((s.door k).provisional.foldl (State.confirmReference k) s).clearReferences k

theorem State.confirmReferences_eq_confirming :
    s.confirmReferences k = (s.confirming k).superviseAll (s.referencedRooms k) := rfl

theorem State.confirming_form : ∃ rooms doors, s.confirming k = { s with rooms := rooms, doors := doors } := by
  obtain ⟨rooms, h⟩ := State.foldl_confirmReference_form k (s.door k).provisional s
  rw [State.confirming, h]
  exact ⟨_, _, rfl⟩

/-- Everything that a confirmation can do: rooms, doors and records. -/
theorem State.confirmReferences_form : ∃ rooms doors q n l, s.confirmReferences k =
    { s with rooms := rooms, doors := doors, queue := q, nextSequence := n, lost := l } := by
  obtain ⟨_, _, hconfirming⟩ := State.confirming_form (s := s) (k := k)
  obtain ⟨_, _, _, _, hchecked⟩ := State.superviseAll_form (s.referencedRooms k) (s.confirming k)
  rw [State.confirmReferences_eq_confirming, hchecked, hconfirming]
  exact ⟨_, _, _, _, _, rfl⟩

/-- An entry at an opening of door `k`: one that waits at it is confirmed at `stamp` (R95). -/
def Entry.openedAt (k : DoorNo) (stamp : Option Nat) (e : Entry) : Entry :=
  if e.state = .provisional ∧ e.door = k then e.confirmedAt stamp else e

section
variable (h : s.tidy)
include h

theorem State.tidy.entries_confirming (q : RoomNo) : ((s.confirming k).room q).entries =
    (s.room q).entries.map (Entry.openedAt k s.clock.minuteStamp) := by
  rw [State.confirming, (h.confirms k).room, List.filter_true]
  rfl

theorem State.tidy.entries_confirmReferences (q : RoomNo) : ((s.confirmReferences k).room q).entries =
    (s.room q).entries.map (Entry.openedAt k s.clock.minuteStamp) := by
  rw [State.confirmReferences_eq_confirming, State.entries_superviseAll, h.entries_confirming]

theorem State.tidy.door_confirmReferences (j : DoorNo) : (s.confirmReferences k).door j =
    if k = j then { s.door k with provisional := [] } else s.door j := by
  rw [State.confirmReferences_eq_confirming, State.door_superviseAll, State.confirming, (h.confirms k).door]
  split
  next hj => simp [hj]
  next hj => rw [bne_iff_ne.mpr (Ne.symm hj), List.filter_true]

/-- The records of a confirmation where no entry of another room waits at the door: those of one check (R86, R95). -/
theorem State.tidy.desk_confirmReferences
    (honly : ∀ q, q ≠ s.roomOf k → ∀ e ∈ (s.room q).entries, ¬(e.state = .provisional ∧ e.door = k))
    (hw : s.supervisionWf) : (s.confirmReferences k).desk =
      s.desk.submitAll (s.checkReport (s.confirmReferences k) (s.roomOf k)) := by
  have hrooms : ∀ r ∈ s.referencedRooms k, r = s.roomOf k := fun r hr =>
    have ⟨e, he, hwaits⟩ := h.of_mem_referencedRooms hr
    Classical.byContradiction fun hne => honly r hne e he hwaits
  have hdesk : (s.confirming k).desk = s.desk := by
    obtain ⟨_, _, hform⟩ := State.confirming_form (s := s) (k := k)
    rw [hform]
    rfl
  have hroom := (h.confirms k).room (s.roomOf k)
  rw [State.confirmReferences_eq_confirming, State.desk_superviseAll_eraseDups, hdesk]
  congr 1
  cases hl : s.referencedRooms k with
  | nil =>
    refine (State.checkReport_of_unchanged hw ?_).symm
    have hempty : (s.confirming k).superviseAll [] = s.confirming k := rfl
    rw [hempty, State.confirming, hroom, List.filter_true]
    refine Room.isUnescorted_map fun e he => ?_
    have hstays : ¬(e.state = .provisional ∧ e.door = k) := fun ⟨hstate, hdoor⟩ => by
      have hmem := h.mem_referencedRooms he hstate
      rw [hdoor, hl] at hmem
      exact nomatch hmem
    rw [if_neg hstays]
    exact ⟨rfl, rfl⟩
  | cons r l =>
    obtain rfl : r = s.roomOf k := hrooms r (hl ▸ List.mem_cons_self)
    have hrest : (l.filter fun p => !p == s.roomOf k) = [] := List.filter_eq_nil_iff.mpr fun p hp => by
      simp [hrooms p (hl ▸ List.mem_cons_of_mem _ hp)]
    rw [List.eraseDups_cons, hrest, List.eraseDups_nil, List.flatMap_singleton]
    refine State.checkReport_congr ?_ ?_ ?_
    · rw [State.confirming, hroom]
    · rw [State.settings_superviseAll]
    · rw [State.entries_superviseAll]

end

end

end Sys2Proof.Machine

namespace Sys2Proof.Machine

/-! ## Openings (R131) -/

/-- An authorised opening of a channel (R131). -/
theorem DoorChannel.openedAuthorised_eq (d : DoorChannel) (now : Nat) : d.openedAuthorised now = { d with
    state := .opened
    allowance := some (now + d.settings.openAllowance * 1000)
    release := if d.settings.relockOnOpen = true ∧ d.release.isSome = true then none else d.release
    lock := if d.settings.relockOnOpen = true ∧ d.release.isSome = true then d.settings.lockType.secureLevel
      else d.lock } := by
  by_cases h : d.settings.relockOnOpen = true ∧ d.release.isSome = true
  · have hrelock : (d.settings.relockOnOpen && d.release.isSome) = true := by simp [h]
    simp only [DoorChannel.openedAuthorised, if_pos h, if_pos hrelock]
    rfl
  · have hrelock : ¬(d.settings.relockOnOpen && d.release.isSome) = true := by simpa using h
    simp only [DoorChannel.openedAuthorised, if_neg h, if_neg hrelock]
    rfl

theorem DoorChannel.openedAuthorised_of_running {d : DoorChannel} (now : Nat) (h : d.release.isSome = true) :
    d.openedAuthorised now = { d with
      state := .opened
      allowance := some (now + d.settings.openAllowance * 1000)
      release := if d.settings.relockOnOpen then none else d.release
      lock := if d.settings.relockOnOpen then d.settings.lockType.secureLevel else d.lock } := by
  rw [DoorChannel.openedAuthorised_eq]
  simp only [h, and_true]

section
variable {s : State} {k : DoorNo}

theorem State.openAuthorised_input (i : InputNo) : (s.openAuthorised k).input i = s.input i := by
  obtain ⟨_, _, _, _, _, h⟩ := State.confirmReferences_form (s := s) (k := k)
  rw [State.openAuthorised, h]
  rfl

theorem State.openAuthorised_permits : (s.openAuthorised k).permits = s.permits := by
  obtain ⟨_, _, _, _, _, h⟩ := State.confirmReferences_form (s := s) (k := k)
  rw [State.openAuthorised, h]
  rfl

section
variable (h : s.tidy)
include h

theorem State.tidy.door_openAuthorised : (s.openAuthorised k).door k =
    ({ s.door k with provisional := [] } : DoorChannel).openedAuthorised s.now := by
  rw [State.openAuthorised, State.door_modifyDoor, if_pos rfl, h.door_confirmReferences, if_pos rfl]

theorem State.tidy.door_openAuthorised_of_ne {j : DoorNo} (hj : j ≠ k) : (s.openAuthorised k).door j = s.door j := by
  rw [State.openAuthorised, State.door_modifyDoor, if_neg (Ne.symm hj), h.door_confirmReferences, if_neg (Ne.symm hj)]

theorem State.tidy.entries_openAuthorised (q : RoomNo) : ((s.openAuthorised k).room q).entries =
    (s.room q).entries.map (Entry.openedAt k s.clock.minuteStamp) :=
  h.entries_confirmReferences q

theorem State.tidy.queue_openAuthorised {v : State} (hdesk : s.desk = v.desk)
    (honly : ∀ q, q ≠ s.roomOf k → ∀ e ∈ (s.room q).entries, ¬(e.state = .provisional ∧ e.door = k))
    (hw : s.supervisionWf) :
    (s.openAuthorised k).queue = (v.submitAll (s.checkReport (s.openAuthorised k) (s.roomOf k))).queue := by
  refine State.queue_eq_of_desk_eq ?_
  rw [State.desk_submitAll, ← hdesk]
  exact h.desk_confirmReferences honly hw

end

end

/-! ## Steady timers (R147) -/

/-- The part once a steady timer has run out and its contact's level is taken, before the door channel has it
(R147). -/
def State.accepted (s : State) (i : InputNo) (deadline : Nat) : State :=
  (s.reach deadline).setInput i { s.input i with steady := none, level := (s.input i).mapped }

section
variable {s : State} {i : InputNo} {deadline : Nat}

theorem exec_steadyTimerExpiry (h : (s.input i).steady = some deadline) : exec (.steadyTimerExpiry i) s =
    .next ((s.accepted i deadline).handOver i (s.input i).level (s.input i).mapped) := by
  have hinput : ((s.reach deadline).modifyInput i fun x => { x with steady := none }).input i =
      { s.input i with steady := none } := by
    rw [State.modifyInput, State.input_setInput, if_pos rfl]
    rfl
  have hset (x y : InputLine) : ((s.reach deadline).setInput i x).setInput i y = (s.reach deadline).setInput i y := by
    simp [State.setInput]
  have htaken : ((s.reach deadline).modifyInput i fun x => { x with steady := none }).acceptLevel i (s.input i).mapped =
      (s.accepted i deadline).handOver i (s.input i).level (s.input i).mapped := by
    rw [State.acceptLevel, State.modifyInput, hinput, State.modifyInput, hset]
    rfl
  show execSteadyTimerExpiry i s = _
  rw [execSteadyTimerExpiry, h]
  exact congrArg Host.Outcome.next htaken

theorem State.accepted_input : (s.accepted i deadline).input i =
    { s.input i with steady := none, level := (s.input i).mapped } := by
  rw [State.accepted, State.input_setInput, if_pos rfl]

end

/-! ## What a door position hands over (R145) -/

/-- The door-position input of a door (R145). -/
def doorPosition (k : DoorNo) : InputNo := ⟨2 * k.val, by omega⟩

theorem doorOfInput_doorPosition (k : DoorNo) : doorOfInput (doorPosition k) = k :=
  Fin.ext (Nat.mul_div_cancel_left _ (by decide))

theorem isDoorPosition_doorPosition (k : DoorNo) : isDoorPosition (doorPosition k) = true := by
  simp [isDoorPosition, doorPosition]

section
variable (s : State) (k : DoorNo) (level : Level)

theorem State.handOver_opening : s.handOver (doorPosition k) .normal .active = s.doorOpens k := by
  unfold State.handOver
  rw [doorOfInput_doorPosition, isDoorPosition_doorPosition]
  rfl

theorem State.handOver_closing : s.handOver (doorPosition k) .active .normal = s.doorCloses k := by
  unfold State.handOver
  rw [doorOfInput_doorPosition, isDoorPosition_doorPosition]
  rfl

theorem State.handOver_first_closed : s.handOver (doorPosition k) .unclassified .normal = s := by
  unfold State.handOver
  rw [doorOfInput_doorPosition, isDoorPosition_doorPosition]
  rfl

theorem State.handOver_first_open : s.handOver (doorPosition k) .unclassified .active = s.firstLevel k .active := by
  unfold State.handOver
  rw [doorOfInput_doorPosition, isDoorPosition_doorPosition]
  rfl

theorem State.handOver_same : s.handOver (doorPosition k) level level = s := by
  unfold State.handOver
  rw [doorOfInput_doorPosition, isDoorPosition_doorPosition]
  cases level <;> rfl

end

/-! ## Openings, closings and first levels (R131, R132, R134) -/

section
variable {s : State} {k : DoorNo}

theorem State.doorOpens_of_secure (h : (s.door k).state = .secure) : s.doorOpens k =
    (s.setDoor k { s.door k with
      state := .forced
      sounder := if (s.door k).settings.sounderOnAlarm then .on else .off }).submit
      { kind := .doorForced, door := some k, room := some (s.door k).settings.room } := by
  rw [State.doorOpens, h]
  rfl

theorem State.doorOpens_of_released (h : (s.door k).state = .released) : s.doorOpens k = s.openAuthorised k := by
  rw [State.doorOpens, h]

theorem State.doorOpens_of_idle (h : (s.door k).state = .idle) : s.doorOpens k = s := by
  rw [State.doorOpens, h]

theorem State.doorOpens_input (i : InputNo) : (s.doorOpens k).input i = s.input i := by
  unfold State.doorOpens
  split
  · obtain ⟨_, _, _, h⟩ := State.submit_form (s.modifyDoor k DoorChannel.openedForced) (s.doorReport .doorForced k none)
    rw [h]
    rfl
  · exact State.openAuthorised_input i
  all_goals rfl

theorem DoorChannel.closedState_eq (d : DoorChannel) :
    d.closedState = if d.release = none ∧ d.egress = none then .secure else .released := by
  cases hr : d.release <;> cases he : d.egress <;> simp [DoorChannel.closedState, hr, he]

theorem State.doorCloses_of_opened (h : (s.door k).state = .opened) : s.doorCloses k =
    s.setDoor k { s.door k with
      state := if (s.door k).release = none ∧ (s.door k).egress = none then .secure else .released
      allowance := none } := by
  rw [State.doorCloses, State.alarmEnd, State.modifyDoor, DoorChannel.closed, h, ← DoorChannel.closedState_eq]
  rfl

theorem State.doorCloses_of_held (h : (s.door k).state = .held) : s.doorCloses k =
    (s.setDoor k { s.door k with
      state := if (s.door k).release = none ∧ (s.door k).egress = none then .secure else .released
      sounder := .off }).submit
      { kind := .doorHeldEnd, door := some k, room := some (s.door k).settings.room, detail := some 0 } := by
  rw [State.doorCloses, State.alarmEnd, State.modifyDoor, DoorChannel.closed, h, ← DoorChannel.closedState_eq]
  rfl

theorem State.doorCloses_of_forced (h : (s.door k).state = .forced) : s.doorCloses k =
    (s.setDoor k { s.door k with
      state := .secure, release := none, egress := none, sounder := .off
      lock := (s.door k).settings.lockType.secureLevel }).submit
      { kind := .doorForcedEnd, door := some k, room := some (s.door k).settings.room, detail := some 0 } := by
  rw [State.doorCloses, State.alarmEnd, State.modifyDoor, DoorChannel.closed, h]
  rfl

theorem State.setDoor_self (s : State) (k : DoorNo) : s.setDoor k (s.door k) = s := by
  simp [State.setDoor, State.door]

theorem State.doorCloses_of_idle (h : (s.door k).state = .idle) : s.doorCloses k = s := by
  have hclosed : (s.door k).closed = s.door k := by rw [DoorChannel.closed, h]
  rw [State.doorCloses, State.alarmEnd, State.modifyDoor, hclosed, State.setDoor_self, h]
  rfl

theorem State.firstLevel_of_settled (h : (s.door k).state ≠ .secure ∧ (s.door k).state ≠ .released) :
    s.firstLevel k .active = s := by
  unfold State.firstLevel
  split
  next hstate => exact absurd hstate h.1
  next hstate => exact absurd hstate h.2
  next => rfl

theorem State.firstLevel_open (h : (s.door k).state = .secure ∨ (s.door k).state = .released) :
    s.firstLevel k .active =
      (if (s.door k).release.isSome then s.confirmReferences k else s).modifyDoor k fun d => d.openedAuthorised s.now := by
  rcases h with h | h <;> simp only [State.firstLevel, h]

theorem State.firstLevel_of_running (h : (s.door k).state = .secure ∨ (s.door k).state = .released)
    (hrelease : (s.door k).release ≠ none) : s.firstLevel k .active = s.openAuthorised k := by
  rw [State.firstLevel_open h, if_pos (Option.isSome_iff_ne_none.mpr hrelease), State.openAuthorised]

theorem State.firstLevel_of_stopped (h : (s.door k).state = .secure ∨ (s.door k).state = .released)
    (hrelease : (s.door k).release = none) : s.firstLevel k .active = s.setDoor k { s.door k with
      state := .opened, allowance := some (s.now + (s.door k).settings.openAllowance * 1000) } := by
  have hstopped : ¬(s.door k).release.isSome = true := by simp [hrelease]
  rw [State.firstLevel_open h, if_neg hstopped, State.modifyDoor, DoorChannel.openedAuthorised_eq]
  simp [hrelease]

end

/-- Settles O43: the hand-over of the accepted level, for each door state. -/
theorem doorPositionsAreTaken : Obligations.DoorPositionsAreTaken := by
  refine ⟨?_, ?_⟩
  · intro k s deadline i d relock hsteady hlevel hmapped hwf href
    have h : (s.accepted i deadline).tidy := State.tidy_of_wf hwf href
    have hexec : exec (.steadyTimerExpiry i) s = .next ((s.accepted i deadline).doorOpens k) := by
      rw [exec_steadyTimerExpiry hsteady, hlevel, hmapped]
      exact congrArg Host.Outcome.next (State.handOver_opening _ k)
    have hinput : ((s.accepted i deadline).doorOpens k).input i =
        { s.input i with steady := none, level := .active } := by
      rw [State.doorOpens_input, State.accepted_input, hmapped]
    have haccepted : s.accepted i deadline =
        (s.reach deadline).setInput i (((s.accepted i deadline).doorOpens k).input i) := by
      rw [hinput, ← hmapped]
      rfl
    refine ⟨_, hexec, hinput, fun hsecure => ?_, fun hidle => ?_, fun hreleased => ?_⟩
    · rw [← haccepted]
      exact State.doorOpens_of_secure hsecure
    · rw [← haccepted]
      exact State.doorOpens_of_idle hidle
    · have hopens : (s.accepted i deadline).doorOpens k = (s.accepted i deadline).openAuthorised k :=
        State.doorOpens_of_released hreleased
      rw [hopens]
      refine ⟨?_, fun j hj => h.door_openAuthorised_of_ne hj, State.openAuthorised_permits,
        fun honly hw => h.queue_openAuthorised rfl honly hw, fun q => h.entries_openAuthorised q⟩
      rw [h.door_openAuthorised, DoorChannel.openedAuthorised_eq]
      rfl
  · intro k s deadline i x d u answers closed ended hsteady
    have hanswers {old new : Level} (hold : x.level = old) (hnew : x.mapped = new) :
        answers (u.handOver (doorPosition k) old new) := by
      rw [← hold, ← hnew]
      exact exec_steadyTimerExpiry hsteady
    refine ⟨fun hlevel hmapped => ?_, fun hlevel hsettled => ?_, fun hlevel hmapped hstate => ?_, fun hsame => ?_⟩
    · have hcloses : answers (u.doorCloses k) := u.handOver_closing k ▸ hanswers hlevel hmapped
      exact ⟨fun h => State.doorCloses_of_opened (s := u) h ▸ hcloses,
        fun h => State.doorCloses_of_held (s := u) h ▸ hcloses,
        fun h => State.doorCloses_of_forced (s := u) h ▸ hcloses,
        fun h => State.doorCloses_of_idle (s := u) h ▸ hcloses⟩
    · cases hmapped : x.mapped with
      | normal => exact u.handOver_first_closed k ▸ hanswers hlevel hmapped
      | active =>
        have hdoor : d.state ≠ .secure ∧ d.state ≠ .released :=
          hsettled.resolve_left (by rw [hmapped]; exact nofun)
        exact State.firstLevel_of_settled (s := u) hdoor ▸ u.handOver_first_open k ▸ hanswers hlevel hmapped
      | unclassified => exact u.handOver_same _ _ ▸ hanswers hlevel hmapped
    · have hfirst : answers (u.firstLevel k .active) := u.handOver_first_open k ▸ hanswers hlevel hmapped
      refine ⟨fun hrelease => State.firstLevel_of_stopped (s := u) hstate hrelease ▸ hfirst,
        fun hrelease hwf href => ?_⟩
      have h : u.tidy := State.tidy_of_wf hwf href
      have hsome : d.release.isSome = true := Option.isSome_iff_ne_none.mpr hrelease
      refine ⟨u.openAuthorised k, State.firstLevel_of_running (s := u) hstate hrelease ▸ hfirst,
        State.openAuthorised_input i, ?_, fun j hj => h.door_openAuthorised_of_ne hj, State.openAuthorised_permits,
        fun honly hw => h.queue_openAuthorised rfl honly hw, fun q => h.entries_openAuthorised q⟩
      exact h.door_openAuthorised.trans (DoorChannel.openedAuthorised_of_running _ hsome)
    · exact u.handOver_same k x.level ▸ hanswers rfl hsame

end Sys2Proof.Machine

/-! # What a group's grants record and count (R6, R7, R62 to R64, R81; O54) -/

namespace Sys2Proof.Machine

/-! ## The entries of one credential (R92) -/

/-- The entries that a credential holds in a room. -/
def State.entriesOf (s : State) (r : RoomNo) (c : Credential) : List Entry :=
  (s.room r).entries.filter fun e => e.credential = c

/-- The PROVISIONAL entries of a credential, whose counts a grant hands back (R7). -/
def State.waitingUnder (s : State) (c : Credential) : List Entry :=
  s.allEntries.filter fun e => e.credential == c && e.state == .provisional

theorem State.waitingUnder_eq (s : State) (c : Credential) :
    s.waitingUnder c = (sixteen.flatMap fun r => s.entriesOf r c).filter fun e => e.state == .provisional := by
  simp only [State.waitingUnder, State.allEntries, State.entriesOf, List.filter_flatMap, List.filter_filter,
    beq_eq_decide, Bool.and_comm]

theorem State.entriesOf_of_absent {s : State} {c : Credential} (h : s.findEntry c = none) (r : RoomNo) :
    s.entriesOf r c = [] :=
  List.filter_eq_nil_iff.mpr fun e he => by simpa using State.findEntry_eq_none_iff.mp h r e he

section
variable {s : State} (h : s.distinct) {r : RoomNo} {e : Entry} (he : e ∈ (s.room r).entries)
include h he

theorem State.distinct.entriesOf_same : s.entriesOf r e.credential = [e] := by
  have hd := h
  rw [State.distinct, State.allEntries, List.map_flatMap] at hd
  exact filter_key_eq_singleton ((List.nodup_flatMap.mp hd).1 r (mem_sixteen r)) he

theorem State.distinct.entriesOf_other {p : RoomNo} (hp : p ≠ r) : s.entriesOf p e.credential = [] :=
  List.filter_eq_nil_iff.mpr fun y hy => by simpa using fun hc => hp (h.once he hy hc).1

theorem State.distinct.waitingUnder_of_mem :
    s.waitingUnder e.credential = if e.state = .provisional then [e] else [] := by
  rw [State.waitingUnder_eq, flatMap_sixteen_eq r fun p hp => h.entriesOf_other he hp, h.entriesOf_same he]
  by_cases hstate : e.state = .provisional
  · simp [hstate]
  · simp [hstate]

end

theorem State.waitingUnder_of_absent {s : State} {c : Credential} (h : s.findEntry c = none) :
    s.waitingUnder c = [] := by
  rw [State.waitingUnder_eq, List.flatMap_eq_nil_iff.mpr fun r _ => State.entriesOf_of_absent h r, List.filter_nil]

/-! ## The record of a departure (R62) -/

/-- The records of the entries that a grant of the credential at a door removes (R62, R96). -/
def State.departureReports (s : State) (k : DoorNo) (c : Credential) : List Report :=
  sixteen.flatMap fun r => ((s.entriesOf r c).filter fun e => !(r == s.roomOf k && e.state == .confirmed)).map
    (removalReport (s.departureKind k r) r)

theorem State.departureReports_of_absent {s : State} {c : Credential} (h : s.findEntry c = none) (k : DoorNo) :
    s.departureReports k c = [] :=
  List.flatMap_eq_nil_iff.mpr fun r _ => by rw [State.entriesOf_of_absent h]; rfl

theorem State.distinct.departureReports_of_mem {s : State} (h : s.distinct) {r : RoomNo} {e : Entry}
    (he : e ∈ (s.room r).entries) (k : DoorNo) : s.departureReports k e.credential =
      if r = s.roomOf k ∧ e.state = .confirmed then [] else [removalReport (s.departureKind k r) r e] := by
  rw [State.departureReports, flatMap_sixteen_eq r, h.entriesOf_same he]
  · by_cases hkept : r = s.roomOf k ∧ e.state = .confirmed
    · simp [hkept]
    · have hgoes : (r == s.roomOf k && e.state == .confirmed) = false := by simpa using hkept
      rw [if_neg hkept, List.filter_eq_self.mpr fun y hy => by rw [List.mem_singleton.mp hy, hgoes]; rfl]
      rfl
  · intro p hp
    rw [h.entriesOf_other he hp]
    rfl

/-! ## One member (R62, R63) -/

theorem handedBack_singleton (e : Entry) (n : Nat) (p : PermitSlot) : handedBack [e] n p =
    if n = e.slot ∧ p.permit.credential = e.credential ∧ p.permit.workOrder = e.workOrder then
      { p with count := p.count - 1 } else p := by
  by_cases hnamed : n = e.slot ∧ p.permit.credential = e.credential ∧ p.permit.workOrder = e.workOrder
  · obtain ⟨rfl, hcredential, hwork⟩ := hnamed
    simp [handedBack, hcredential, hwork]
  · have hother : (e.slot == n && e.credential == p.permit.credential && e.workOrder == p.permit.workOrder) = false := by
      simp only [Bool.and_eq_false_iff, beq_eq_false_iff_ne]
      by_contra hall
      simp only [not_or, not_not] at hall
      exact hnamed ⟨hall.1.1.symm, hall.1.2.symm, hall.2.symm⟩
    simp [handedBack, hother, hnamed]

section
variable {s : State} (h : s.tidy) (k : DoorNo) (c : Credential) (q : Qualifying) (reading : Clock) (atOnce : Bool)
include h

/-- A grant over the credential's own CONFIRMED entry removes nothing (R63). -/
theorem State.tidy.of_kept (hkept : s.holdsConfirmed (s.roomOf k) c = true) :
    s.departureReports k c = [] ∧ s.waitingUnder c = [] := by
  obtain ⟨e, he, rfl, hstate⟩ := h.holdsConfirmed_iff.mp hkept
  rw [h.1.departureReports_of_mem he, h.1.waitingUnder_of_mem he, hstate]
  simp

theorem State.tidy.desk_grantEntry :
    (s.grantEntry k c q reading atOnce).desk = s.desk.submitAll (s.departureReports k c) := by
  unfold State.grantEntry
  split
  next hkept =>
    rw [(h.of_kept k c hkept).1]
    rfl
  next hkept =>
    have hkept := Bool.eq_false_iff.mpr hkept
    rw [State.desk_placeGranted]
    rcases State.departed_eq hkept with ⟨hnone, hsame⟩ | ⟨r, e, he, rfl, hgone⟩
    · rw [hsame, State.departureReports_of_absent hnone]
      rfl
    · have hgoes : ¬(r = s.roomOf k ∧ e.state = .confirmed) := fun ⟨hr, hstate⟩ => by
        rw [h.holdsConfirmed_iff.mpr ⟨e, hr ▸ he, rfl, hstate⟩] at hkept
        cases hkept
      rw [hgone, h.1.departureReports_of_mem he, if_neg hgoes, State.desk_handBack, State.desk_submit,
        State.desk_dropEntry, Desk.submitAll_singleton]

theorem State.tidy.slot_grantEntry (n : Nat) :
    (s.grantEntry k c q reading atOnce).slot n = (s.slot n).map (handedBack (s.waitingUnder c) n) := by
  have hid (x : Option PermitSlot) : x.map (handedBack [] n) = x := Option.map_id'
  unfold State.grantEntry
  split
  next hkept =>
    rw [(h.of_kept k c hkept).2, hid]
    rfl
  next hkept =>
    rw [State.slot_congr (State.placeGranted_permits _ k c q reading atOnce)]
    rcases State.departed_eq (Bool.eq_false_iff.mpr hkept) with ⟨hnone, hsame⟩ | ⟨r, e, he, rfl, hgone⟩
    · rw [hsame, State.waitingUnder_of_absent hnone, hid]
    · rw [hgone, h.1.waitingUnder_of_mem he, State.slot_handBack, State.slot_congr (s := s) (by simp)]
      by_cases hstate : e.state = .provisional
      · simp only [hstate, true_and, if_true, funext (handedBack_singleton e n)]
      · simp [hstate, hid]

omit h in
theorem State.readers_grantEntry : (s.grantEntry k c q reading atOnce).readers = s.readers := by
  unfold State.grantEntry
  split
  · simp [State.changeEntry]
  next hkept =>
    rw [State.placeGranted_readers]
    rcases State.departed_eq (Bool.eq_false_iff.mpr hkept) with ⟨-, hsame⟩ | ⟨r, e, -, -, hgone⟩
    · rw [hsame]
    · simp [hgone]

end

/-! ## One member after the other (R81) -/

/-- The records of a member's grant: what leaves with the old entry, and ENTRY_GRANTED (R62, R64). -/
def State.memberReports (s : State) (x : Arrival) (m : GroupMember) : List Report :=
  s.departureReports x.door m.credential ++
    [s.grantReport x.door x.reader m.credential m.permit (s.entitledUntil m.permit.permit x.reading)]

/-- What slot `n` holds once a member is granted: its old count handed back, and its new one raised (R6, R7). -/
def State.memberCounted (s : State) (n : Nat) (m : GroupMember) (p : PermitSlot) : PermitSlot :=
  m.permit.raisedAt n (handedBack (s.waitingUnder m.credential) n p)

section
variable {s t : State} {k : DoorNo} {group : List GroupMember} {reading : Clock} {atOnce : Bool}

/-- Grants leave the entries of every other credential. -/
theorem State.Grants.entriesOf (h : s.Grants t k group reading atOnce) {c : Credential}
    (hc : hasMember group c = false) (r : RoomNo) : t.entriesOf r c = s.entriesOf r c := by
  have hnew : (if r = s.roomOf k then (s.placed (s.roomOf k) group).map fun m =>
      s.newEntry k m.credential m.permit reading atOnce else []).filter (fun e => e.credential = c) = [] := by
    refine List.filter_eq_nil_iff.mpr fun e he hec => ?_
    have hmember := State.hasMember_of_mem_entries_placed he
    rw [of_decide_eq_true hec, hc] at hmember
    cases hmember
  have hwho : (fun e : Entry => decide (e.credential = c)) ∘ s.grantedOver group reading =
      fun e => decide (e.credential = c) := by
    funext e
    rw [Function.comp_apply, (s.grantedOver_stands group reading e).1]
  rw [State.entriesOf, h.room, List.filter_append, hnew, List.append_nil, List.filter_map, hwho, List.filter_filter,
    State.entriesOf]
  have hstays : (s.room r).entries.filter (fun e => decide (e.credential = c) && !e.leaves group (s.roomOf k) r) =
      (s.room r).entries.filter fun e => e.credential = c := by
    refine List.filter_congr fun e _ => ?_
    by_cases hec : e.credential = c
    · simp [Entry.leaves, hec, hc]
    · simp [hec]
  rw [hstays]
  refine (List.map_congr_left fun e he => State.grantedOver_of_not_member ?_).trans (List.map_id' _)
  rw [of_decide_eq_true (List.mem_filter.mp he).2, hc]

theorem State.Grants.roomOf (h : s.Grants t k group reading atOnce) (j : DoorNo) : t.roomOf j = s.roomOf j :=
  State.roomOf_congr_settings (fun i => by rw [h.door]) j

theorem State.Grants.departureReports (h : s.Grants t k group reading atOnce) {c : Credential}
    (hc : hasMember group c = false) (j : DoorNo) : t.departureReports j c = s.departureReports j c := by
  simp only [State.departureReports, h.entriesOf hc, State.departureKind, h.roomOf]

theorem State.Grants.memberReports {x : Arrival} (h : s.Grants t k group reading atOnce) {m : GroupMember}
    (hm : hasMember group m.credential = false) : t.memberReports x m = s.memberReports x m := by
  simp only [State.memberReports, h.departureReports hm, State.grantReport, h.roomOf,
    State.entitledUntil_congr h.schedules]

theorem State.Grants.memberCounted (h : s.Grants t k group reading atOnce) {m : GroupMember}
    (hm : hasMember group m.credential = false) (n : Nat) : t.memberCounted n m = s.memberCounted n m := by
  funext p
  simp only [State.memberCounted, State.waitingUnder_eq, h.entriesOf hm]

/-- What an application of one grant records, counts and leaves (R6, R62, R64). -/
theorem State.tidy.applyGrant_rest {x : Arrival} {m : GroupMember} (h : s.tidy) :
    (s.applyGrant x.door x.reader m.credential m.permit x.reading atOnce).desk =
        s.desk.submitAll (s.memberReports x m) ∧
      (∀ n, (s.applyGrant x.door x.reader m.credential m.permit x.reading atOnce).slot n =
        (s.slot n).map (s.memberCounted n m)) ∧
      (s.applyGrant x.door x.reader m.credential m.permit x.reading atOnce).readers = s.readers := by
  have hdoor (j : DoorNo) : ((s.grantEntry x.door m.credential m.permit x.reading atOnce).door j).settings =
      (s.door j).settings := by
    cases hkept : s.holdsConfirmed (s.roomOf x.door) m.credential with
    | true => rw [(h.grants_own hkept).1.door]
    | false => rw [(h.grants_new hkept).1.door]
  have hreport (entitled : Option Nat) :
      (s.grantEntry x.door m.credential m.permit x.reading atOnce).grantReport x.door x.reader m.credential m.permit
        entitled = s.grantReport x.door x.reader m.credential m.permit entitled := by
    rw [State.grantReport, State.roomOf_congr_settings hdoor, State.grantReport]
  rw [State.applyGrant_eq]
  refine ⟨?_, fun n => ?_, ?_⟩
  · rw [State.countGrant, State.desk_submit, State.desk_raiseCount, h.desk_grantEntry, hreport, State.memberReports,
      Desk.submitAll_append, Desk.submitAll_singleton]
  · have hcounted : ((s.grantEntry x.door m.credential m.permit x.reading atOnce).countGrant x.door x.reader
        m.credential m.permit (s.entitledUntil m.permit.permit x.reading)).slot n =
        ((s.grantEntry x.door m.credential m.permit x.reading atOnce).slot n).map (m.permit.raisedAt n) := by
      rw [State.slot, State.slot, ← slotAt_raised]
      simp [State.countGrant]
    rw [hcounted, h.slot_grantEntry, Option.map_map]
    rfl
  · simp [State.countGrant, State.readers_grantEntry]

/-- What the grants of a group whose members are distinct record, count and leave (R6, R62, R64, R81). -/
theorem State.tidy.applyGroup_rest {x : Arrival} {group : List GroupMember} (h : s.tidy)
    (hnodup : (group.map GroupMember.credential).Nodup) :
    (s.applyGroup x group atOnce).desk = s.desk.submitAll (group.flatMap (s.memberReports x)) ∧
      (∀ n, (s.applyGroup x group atOnce).slot n =
        (s.slot n).map fun p => group.foldl (fun p m => s.memberCounted n m p) p) ∧
      (s.applyGroup x group atOnce).readers = s.readers := by
  induction group generalizing s with
  | nil => exact ⟨rfl, fun n => Option.map_id'.symm, rfl⟩
  | cons m group ih =>
    obtain ⟨hm, hnodup'⟩ := List.nodup_cons.mp hnodup
    obtain ⟨hgrants, htidy⟩ := h.grants_applyGrant x.reader m.credential m.permit (k := x.door) (reading := x.reading)
      (atOnce := atOnce)
    obtain ⟨hdesk, hslot, hreaders⟩ := h.applyGrant_rest (x := x) (m := m) (atOnce := atOnce)
    obtain ⟨hdesk', hslot', hreaders'⟩ := ih htidy hnodup'
    have hother (g : GroupMember) (hg : g ∈ group) : hasMember [m] g.credential = false := by
      have hne : m.credential ≠ g.credential := fun heq => hm (heq ▸ List.mem_map_of_mem hg)
      simp [hasMember, hne]
    refine ⟨hdesk'.trans ?_, fun n => (hslot' n).trans ?_, hreaders'.trans hreaders⟩
    · rw [hdesk, List.flatMap_cons, Desk.submitAll_append,
        List.flatMap_congr fun g hg => hgrants.memberReports (hother g hg)]
    · rw [hslot, Option.map_map]
      refine congrArg (Option.map · (s.slot n)) (funext fun p => ?_)
      exact List.foldl_ext _ _ _ fun p g hg => by rw [hgrants.memberCounted (hother g hg)]

end

end Sys2Proof.Machine

namespace Sys2Proof.Machine

/-! ## The members leave the pairing table (R71, R81) -/

section
variable {s : State} {c : Credential}

theorem State.withdrawMember_of_stranger (h : ∀ j, ∀ m ∈ s.membersAt j, m.credential ≠ c) : s.withdrawMember c = s := by
  simp [State.withdrawMember, State.membership_eq_none_iff.mpr h]

/-- Who still waits once a credential has left waited before (R71). -/
theorem State.of_mem_membersAt_withdrawMember (h : s.pairingsWf) {j : DoorNo} {m : Member}
    (hm : m ∈ (s.withdrawMember c).membersAt j) : m ∈ s.membersAt j := by
  cases hj : (s.withdrawMember c).pairing j with
  | none => simp [State.membersAt_of_none hj] at hm
  | some p' =>
    rw [State.membersAt_of_pairing hj] at hm
    rw [State.pairing_withdrawMember h] at hj
    obtain ⟨p, hp, -, hmembers, -⟩ := State.of_pairingWithout h hj
    exact State.membersAt_of_pairing hp ▸ hmembers.subset hm

/-- Of a group only the arrival can wait at a door; its withdrawal is that of the group (R71, R81). -/
theorem State.foldl_withdrawMember (hwf : s.pairingsWf) {group : List GroupMember}
    (hnodup : (group.map GroupMember.credential).Nodup) (hc : c ∈ group.map GroupMember.credential)
    (hstranger : ∀ m ∈ group, m.credential ≠ c → ∀ j, ∀ y ∈ s.membersAt j, y.credential ≠ m.credential) :
    group.foldl (fun s m => s.withdrawMember m.credential) s = s.withdrawMember c := by
  have hnone (group : List GroupMember) (t : State)
      (h : ∀ m ∈ group, ∀ j, ∀ y ∈ t.membersAt j, y.credential ≠ m.credential) :
      group.foldl (fun s m => s.withdrawMember m.credential) t = t := by
    induction group with
    | nil => rfl
    | cons m group ih =>
      rw [List.foldl_cons, State.withdrawMember_of_stranger (h m List.mem_cons_self),
        ih fun g hg => h g (List.mem_cons_of_mem _ hg)]
  induction group with
  | nil => cases hc
  | cons m group ih =>
    obtain ⟨hm, hnodup'⟩ := List.nodup_cons.mp hnodup
    by_cases hmc : m.credential = c
    · subst hmc
      rw [List.foldl_cons]
      refine hnone group _ fun g hg j y hy => ?_
      have hne : g.credential ≠ m.credential := fun heq => hm (heq ▸ List.mem_map_of_mem hg)
      exact hstranger g (List.mem_cons_of_mem _ hg) hne j y (State.of_mem_membersAt_withdrawMember hwf hy)
    · rw [List.foldl_cons, State.withdrawMember_of_stranger (hstranger m List.mem_cons_self hmc)]
      refine ih hnodup' ?_ fun g hg => hstranger g (List.mem_cons_of_mem _ hg)
      exact (List.mem_cons.mp hc).resolve_left fun heq => hmc heq.symm

end

/-! ## The door answers the group (R61, R81) -/

/-- The door's release is started, its record is closed, and the arrival has left any other (R71, R81, R127). -/
def State.gathering (s : State) (k : DoorNo) (c : Credential) : State :=
  ((s.releasedAt k).setPairing k none).withdrawMember c

section
variable {s : State} {k : DoorNo} {c : Credential}

theorem State.releasing_membersAt (j : DoorNo) :
    ((s.releasedAt k).setPairing k none).membersAt j = if j = k then [] else s.membersAt j := by
  by_cases hj : j = k
  · subst hj
    simp [State.membersAt, State.pairing_setPairing]
  · have hpairing : ((s.releasedAt k).setPairing k none).pairing j = s.pairing j := by
      rw [State.pairing_setPairing, if_neg (Ne.symm hj)]
      rfl
    rw [if_neg hj, State.membersAt, hpairing, State.membersAt]

theorem State.releasing_pairingsWf (h : s.pairingsWf) : ((s.releasedAt k).setPairing k none).pairingsWf := by
  refine State.pairingsWf_of_sublist h id fun j p' hp' => ?_
  rw [State.pairing_setPairing] at hp'
  split at hp'
  · cases hp'
  · exact ⟨p', hp', h.2.1 j p' hp', List.Sublist.refl _⟩

theorem State.gathering_rooms : (s.gathering k c).rooms = s.rooms := by simp [State.gathering, State.releasedAt]
theorem State.gathering_permits : (s.gathering k c).permits = s.permits := by simp [State.gathering, State.releasedAt]
theorem State.gathering_schedules : (s.gathering k c).schedules = s.schedules := by
  simp [State.gathering, State.releasedAt]
theorem State.gathering_readers : (s.gathering k c).readers = s.readers := by simp [State.gathering, State.releasedAt]

theorem State.gathering_door (j : DoorNo) :
    (s.gathering k c).door j = if j = k then (s.door k).releasing s.now else s.door j := by
  have hdoor : ((s.releasedAt k).setPairing k none).door j = if k = j then (s.door k).releasing s.now else s.door j :=
    State.door_setDoor s k j _
  rw [State.gathering, State.door_congr (State.withdrawMember_doors _ _), hdoor]
  simp [eq_comm (a := j)]

theorem State.gathering_settings (j : DoorNo) : ((s.gathering k c).door j).settings = (s.door j).settings := by
  rw [State.gathering_door]
  split
  next hj => rw [hj, DoorChannel.releasing_settings]
  next => rfl

theorem State.gathering_provisional (j : DoorNo) :
    ((s.gathering k c).door j).provisional = (s.door j).provisional := by
  rw [State.gathering_door]
  split
  next hj => rw [hj, DoorChannel.releasing_provisional]
  next => rfl

theorem State.gathering_roomOf (j : DoorNo) : (s.gathering k c).roomOf j = s.roomOf j :=
  State.roomOf_congr_settings State.gathering_settings j

theorem State.gathering_placed (room : RoomNo) (group : List GroupMember) :
    (s.gathering k c).placed room group = s.placed room group := by
  simp only [State.placed, State.settled, State.room_congr State.gathering_rooms]

theorem State.gathering_tidy (h : s.tidy) : (s.gathering k c).tidy :=
  (State.tidy_congr State.gathering_rooms State.gathering_provisional).mpr h

/-- The arrival waits at no other door afterwards, and the door's record is closed (R71, R81). -/
theorem State.gathering_pairing (h : s.pairingsWf) (j : DoorNo) :
    (s.gathering k c).pairing j = if j = k then none else s.pairingWithout c j := by
  rw [State.gathering, State.pairing_withdrawMember (State.releasing_pairingsWf h), State.pairingWithout,
    State.pairing_setPairing]
  by_cases hj : j = k
  · rw [if_pos hj.symm, if_pos hj]
    rfl
  · rw [if_neg (Ne.symm hj), if_neg hj]
    rfl

/-- The arrival leaves another door's record with PAIRING_ABANDONED (R71). -/
theorem State.desk_gathering (h : s.pairingsWf) (hstranger : ∀ m ∈ s.membersAt k, m.credential ≠ c) :
    (s.gathering k c).desk = s.desk.submitAll (s.abandonedReports c) := by
  have hreports : ((s.releasedAt k).setPairing k none).abandonedReports c = s.abandonedReports c := by
    rw [State.abandonedReports_eq, State.abandonedReports_eq]
    refine List.flatMap_congr fun j _ => ?_
    have hreport : ((s.releasedAt k).setPairing k none).abandonedReport j = s.abandonedReport j := by
      funext m
      simp only [State.abandonedReport]
      rw [State.roomOf_congr_settings (s := s) (t := (s.releasedAt k).setPairing k none) (s.releasedAt_settings k)]
    rw [State.releasing_membersAt, hreport]
    split
    next hj =>
      rw [hj, List.filter_nil, List.filter_eq_nil_iff.mpr fun m hm => by simpa using hstranger m hm]
    next => rfl
  rw [State.gathering, State.desk_withdrawMember (State.releasing_pairingsWf h), hreports, State.desk_setPairing,
    State.releasedAt, State.desk_setDoor]

end

section
variable {s : State} {x : Arrival} {group : List GroupMember}

/-- The number of references that the group's grants add to the door's list (R81). -/
def State.addedReferences (s : State) (x : Arrival) (group : List GroupMember) : Nat :=
  group.countP fun m => !s.holdsConfirmed (s.roomOf x.door) m.credential

/-- A group whose release is taken (R61, R81). -/
theorem State.grantGroup_of_taken (hidle : (s.door x.door).state ≠ .idle)
    (hplace : (s.door x.door).state = .secure ∨ (s.door x.door).state = .released →
      (s.door x.door).provisional.length + s.addedReferences x group ≤ 8) :
    s.grantGroup x group =
      (((group.foldl (fun s m => s.withdrawMember m.credential) ((s.releasedAt x.door).setPairing x.door none)).applyGroup
        x group (decide (s.door x.door).wide)).post x.reader .grant).superviseAll
        (s.roomsTouched x.door (group.map GroupMember.credential)) := by
  unfold State.addedReferences at hplace
  rw [← DoorChannel.takenOpen_iff_wide hidle]
  unfold State.grantGroup State.requestRelease
  dsimp only
  rw [DoorChannel.requestRelease_eq _ s.now _ hidle hplace]
  split
  next h =>
    split_ifs at h <;> simp at h
  next answer s1 _ h =>
    obtain ⟨rfl, rfl⟩ := Prod.mk.inj h
    rfl

/-- A group for which the list of a closed door has no place (R61, R81). -/
theorem State.grantGroup_busy (hclosed : (s.door x.door).state = .secure ∨ (s.door x.door).state = .released)
    (hfull : 8 < (s.door x.door).provisional.length + s.addedReferences x group) :
    s.grantGroup x group = s.denyGroup x .doorBusy (group.map fun m => (m.credential, m.permit.carried)) := by
  unfold State.addedReferences at hfull
  unfold State.grantGroup State.requestRelease
  dsimp only
  rw [DoorChannel.requestRelease_busy _ s.now _ hclosed hfull]

end

end Sys2Proof.Machine

namespace Sys2Proof.Machine

/-! ## A presentation noted, with records queued -/

/-- `v` is `s` with the presentation at reader `a` noted and the records given queued. -/
structure State.Noted (s v : State) (a : ReaderNo) (before : List Report) : Prop where
  form : ∃ readers q n l, v = { s with readers := readers, queue := q, nextSequence := n, lost := l }
  online : (v.reader a).state ≠ .offline
  desk : v.desk = s.desk.submitAll before

theorem State.noted_submitAll {s : State} {a : ReaderNo} (hstate : (s.reader a).state ≠ .offline) (c : Credential)
    (before : List Report) : s.Noted ((s.presented a c).submitAll before) a before := by
  obtain ⟨readers, _, _, _, hpresented⟩ := s.presented_form a c
  obtain ⟨q, n, l, hqueued⟩ := State.submitAll_form before (s.presented a c)
  refine ⟨⟨readers, q, n, l, by rw [hqueued, hpresented]⟩, ?_, ?_⟩
  · rw [State.reader_congr (State.submitAll_readers _ _), State.presented_reader]
    nofun
  · rw [State.desk_submitAll, State.desk_presented hstate]

/-! ## A group that is denied as a whole (R78, R80, R81) -/

/-- A presentation that ends its door's record with a denial of every member. -/
def State.failsGroup (s : State) (x : Arrival) (before : List Report) (reason : Reason)
    (group : List (Credential × Nat × Nat)) : Prop :=
  ∃ t : State, exec (.replyReceived (replyFrame x.reader (s.reader x.reader).tamper (some x.credential))) s = .next t ∧
    (∀ j, t.pairing j = if j = x.door then none else s.pairing j) ∧
    t.queue = (s.submitAll (before ++
      group.map fun m => s.deniedReport x.door x.reader reason m.1 m.2.1 m.2.2)).queue ∧
    (t.rooms = s.rooms ∧ t.permits = s.permits ∧ t.doors = s.doors) ∧ t.tells x.reader (.deny reason)

section
variable {s v : State} {x : Arrival} {q : Qualifying} {before : List Report}

theorem State.failsGroup_of_denyGroup (hqualifies : s.qualifiesAt x.reader x.door x.credential q)
    (hv : s.Noted v x.reader before) {reason : Reason} {group : List (Credential × Nat × Nat)}
    (hpresent : (s.presented x.reader x.credential).present x.reader x.credential =
      v.denyGroup x reason (group.map fun m => (m.1, some m.2))) : s.failsGroup x before reason group := by
  obtain ⟨⟨ind, ends, hloop⟩, hassignment, hrepeats, -⟩ := hqualifies
  refine ⟨_, exec_replyReceived_presentation hloop hrepeats, ?_⟩
  rw [hpresent, State.denyGroup]
  obtain ⟨⟨_, _, _, _, hform⟩, honline, hdesk⟩ := hv
  have hrooms : v.rooms = s.rooms := by rw [hform]
  have hpermits : v.permits = s.permits := by rw [hform]
  have hdoors : v.doors = s.doors := by rw [hform]
  have hpairings : v.pairings = s.pairings := by rw [hform]
  refine ⟨fun j => ?_, State.queue_eq_of_desk_eq ?_, ⟨?_, ?_, ?_⟩,
    State.post_advanceLoop_tells (x := (x.door, .entry)) ?_ ?_ _⟩
  · rw [State.pairing_congr (State.advanceLoop_pairings _), State.pairing_congr (State.post_pairings _ _ _),
      State.pairing_setPairing, State.pairing_congr (State.submitAll_pairings _ _), State.pairing_congr hpairings]
    simp only [eq_comm]
  · rw [State.desk_advanceLoop, State.desk_post, State.desk_setPairing, State.desk_submitAll, hdesk,
      State.desk_submitAll, Desk.submitAll_append, List.map_map]
    congr 2
    funext m
    simp only [Function.comp_apply, State.denial, State.deniedReport, State.roomOf_congr hdoors]
    rfl
  · simp [hrooms]
  · simp [hpermits]
  · simp [hdoors]
  · rw [← hassignment]
    refine State.assignment_congr (fun j => ?_) _
    rw [State.door_congr (s := s) (by simp [hdoors])]
  · rwa [State.reader_congr (s := v) (by simp)]

end

/-! ## A group that is granted (R62, R63, R81, R86) -/

/-- The grants of an arrival's group, before the reader is told and the rooms are checked (R81). -/
def State.groupApplied (v : State) (x : Arrival) (group : List GroupMember) : State :=
  (v.gathering x.door x.credential).applyGroup x group (decide (v.door x.door).wide)

/-- The part once the group of an arrival has been granted and the loop has gone on (R81, R157). -/
def State.groupGranted (v : State) (x : Arrival) (group : List GroupMember) : State :=
  (((v.groupApplied x group).post x.reader .grant).superviseAll
    (v.roomsTouched x.door (group.map GroupMember.credential))).advanceLoop

/-- A group of distinct members in a tidy account, of which none but the arrival can wait at another door. -/
structure State.Gathers (v : State) (x : Arrival) (group : List GroupMember) : Prop where
  tidy : v.tidy
  pairings : v.pairingsWf
  nodup : (group.map GroupMember.credential).Nodup
  arrival : x.credential ∈ group.map GroupMember.credential
  stranger : ∀ m ∈ v.membersAt x.door, m.credential ≠ x.credential
  waits : ∀ m ∈ group, m.credential ≠ x.credential → ∃ y ∈ v.membersAt x.door, y.credential = m.credential

section
variable {v : State} {x : Arrival} {group : List GroupMember} (h : v.Gathers x group)
include h

/-- The group's withdrawals are the arrival's (R71, R81). -/
theorem State.Gathers.foldl_withdrawMember :
    group.foldl (fun s m => s.withdrawMember m.credential) ((v.releasedAt x.door).setPairing x.door none) =
      v.gathering x.door x.credential := by
  refine State.foldl_withdrawMember (State.releasing_pairingsWf h.pairings) h.nodup h.arrival fun m hm hne j y hy => ?_
  rw [State.releasing_membersAt] at hy
  split at hy
  · cases hy
  next hj =>
    obtain ⟨held, hheld, hcredential⟩ := h.waits m hm hne
    obtain ⟨-, -, hnodup, -⟩ := h.pairings
    rw [← hcredential]
    exact State.not_waiting_elsewhere hnodup hheld hj y hy

/-- The grants start from rooms and lists as they were. -/
theorem State.Gathers.grants :
    (v.gathering x.door x.credential).Grants (v.groupApplied x group) x.door group x.reading
      (decide (v.door x.door).wide) :=
  (State.tidy.grants_applyGroup (State.gathering_tidy h.tidy) h.nodup).1

/-- What the grants record, count and leave. -/
theorem State.Gathers.rest :
    (v.groupApplied x group).desk = (v.gathering x.door x.credential).desk.submitAll
        (group.flatMap ((v.gathering x.door x.credential).memberReports x)) ∧
      (∀ n, (v.groupApplied x group).slot n = ((v.gathering x.door x.credential).slot n).map fun p =>
        group.foldl (fun p m => (v.gathering x.door x.credential).memberCounted n m p) p) ∧
      (v.groupApplied x group).readers = (v.gathering x.door x.credential).readers :=
  State.tidy.applyGroup_rest (State.gathering_tidy h.tidy) h.nodup

theorem State.Gathers.entries_groupGranted (r : RoomNo) : ((v.groupGranted x group).room r).entries =
    (((v.room r).entries.filter fun e => !e.leaves group (v.roomOf x.door) r).map (v.grantedOver group x.reading)) ++
      if r = v.roomOf x.door then
        (v.placed (v.roomOf x.door) group).map fun m =>
          v.newEntry x.door m.credential m.permit x.reading (decide (v.door x.door).wide)
      else [] := by
  have hpost (u : State) : (u.post x.reader .grant).room r = u.room r := State.room_congr (u.post_rooms _ _) r
  rw [State.groupGranted, State.room_congr (State.advanceLoop_rooms _), State.entries_superviseAll, hpost,
    h.grants.room, State.room_congr State.gathering_rooms, State.gathering_roomOf,
    State.grantedOver_congr State.gathering_schedules, State.gathering_placed]
  simp only [State.newEntry_congr State.gathering_schedules]

theorem State.Gathers.door_groupGranted (j : DoorNo) : (v.groupGranted x group).door j =
    { (if j = x.door then (v.door x.door).releasing v.now else v.door j) with
      provisional := (v.door j).provisional.filter (fun c => !hasMember group c) ++
        if j = x.door ∧ decide (v.door x.door).wide = false then
          (v.placed (v.roomOf x.door) group).map GroupMember.credential
        else [] } := by
  rw [State.groupGranted, State.door_congr (State.advanceLoop_doors _), State.door_superviseAll,
    State.door_congr (State.post_doors _ _ _), h.grants.door, State.gathering_provisional, State.gathering_roomOf,
    State.gathering_placed, State.gathering_door]

theorem State.Gathers.pairing_groupGranted (j : DoorNo) :
    (v.groupGranted x group).pairing j = if j = x.door then none else v.pairingWithout x.credential j := by
  rw [← State.gathering_pairing h.pairings]
  refine State.pairing_congr ?_ j
  rw [State.groupGranted, State.advanceLoop_pairings, State.superviseAll_pairings, State.post_pairings,
    h.grants.pairings]

theorem State.Gathers.slot_groupGranted (n : Nat) : (v.groupGranted x group).slot n =
    (v.slot n).map fun p => group.foldl (fun p m => v.memberCounted n m p) p := by
  obtain ⟨-, hslot, -⟩ := h.rest
  have hcounted (m : GroupMember) : (v.gathering x.door x.credential).memberCounted n m = v.memberCounted n m := by
    funext p
    simp only [State.memberCounted, State.waitingUnder_eq, State.entriesOf, State.room_congr State.gathering_rooms]
  rw [State.groupGranted, State.slot_congr (s := v.groupApplied x group) (by simp), hslot,
    State.slot_congr State.gathering_permits]
  simp only [hcounted]

/-- The rooms touched are checked once each: those that members leave, and then the door's (R86). -/
theorem State.Gathers.desk_groupGranted : (v.groupGranted x group).desk =
    v.desk.submitAll (v.abandonedReports x.credential ++ group.flatMap (v.memberReports x) ++
      (v.roomsTouched x.door (group.map GroupMember.credential)).eraseDups.flatMap
        (v.checkReport (v.groupGranted x group))) := by
  obtain ⟨hdesk, -, -⟩ := h.rest
  have hreports : group.flatMap ((v.gathering x.door x.credential).memberReports x) =
      group.flatMap (v.memberReports x) := by
    refine List.flatMap_congr fun m _ => ?_
    simp only [State.memberReports, State.departureReports, State.entriesOf, State.room_congr State.gathering_rooms,
      State.departureKind, State.gathering_roomOf, State.grantReport, State.entitledUntil_congr State.gathering_schedules]
  have hroom (r : RoomNo) : ((v.groupApplied x group).post x.reader .grant).room r = (v.groupApplied x group).room r :=
    State.room_congr (State.post_rooms _ _ _) r
  have hchecks (r : RoomNo) : ((v.groupApplied x group).post x.reader .grant).checkReport
      ((v.groupApplied x group).post x.reader .grant) r = v.checkReport (v.groupGranted x group) r := by
    refine State.checkReport_congr ?_ ?_ ?_
    · rw [hroom, h.grants.room, State.room_congr State.gathering_rooms]
    · rw [State.groupGranted, State.room_congr (State.advanceLoop_rooms _), State.settings_superviseAll]
    · rw [State.groupGranted, State.room_congr (State.advanceLoop_rooms _), State.entries_superviseAll]
  have hchecked : (v.groupGranted x group).desk = (v.groupApplied x group).desk.submitAll
      ((v.roomsTouched x.door (group.map GroupMember.credential)).eraseDups.flatMap
        (v.checkReport (v.groupGranted x group))) := by
    refine (State.desk_advanceLoop _).trans ((State.desk_superviseAll_eraseDups _ _).trans ?_)
    rw [State.desk_post, List.flatMap_congr fun r _ => hchecks r]
  rw [hchecked, hdesk, State.desk_gathering h.pairings h.stranger, hreports, Desk.submitAll_append,
    Desk.submitAll_append]

/-- The reader of the arrival is told GRANT (R81, R164). -/
theorem State.Gathers.groupGranted_tells {y : DoorNo × Direction} (hassigned : v.assignment x.reader = some y)
    (honline : (v.reader x.reader).state ≠ .offline) : (v.groupGranted x group).tells x.reader .grant := by
  obtain ⟨-, -, hreaders⟩ := h.rest
  have hassigned' : (v.groupApplied x group).assignment
      x.reader = some y := by
    rw [← hassigned]
    exact State.assignment_congr (fun j => by rw [h.grants.door, State.gathering_settings]) _
  have honline' : ((v.groupApplied x group).reader
      x.reader).state ≠ .offline := by
    rwa [State.reader_congr (hreaders.trans State.gathering_readers)]
  refine State.advanceLoop_tells ?_
  rw [State.reader_congr (State.superviseAll_readers _ _), State.post_of_reached hassigned' honline',
    State.reader_modifyReader, if_pos rfl]

end

end Sys2Proof.Machine

namespace Sys2Proof.Machine

/-! ## The room and the pool judge the group (R80) -/

section
variable {s : State} {x : Arrival} {group : List GroupMember}

theorem State.judgeGroup_of_full (hfull : (s.room (s.roomOf x.door)).settings.cap <
      s.entryCount (s.roomOf x.door) + group.countP fun m => !s.entryIn (s.roomOf x.door) m.credential) :
    s.judgeGroup x group = s.denyGroup x .roomFull (group.map fun m => (m.credential, m.permit.carried)) := by
  simp [State.judgeGroup, State.capCheck, hfull]

theorem State.judgeGroup_of_drained (hfull : ¬(s.room (s.roomOf x.door)).settings.cap <
      s.entryCount (s.roomOf x.door) + group.countP fun m => !s.entryIn (s.roomOf x.door) m.credential)
    (hdrained : s.freeCount < (group.countP fun m => !s.entryIn (s.roomOf x.door) m.credential) -
      group.countP fun m => s.entryElsewhere (s.roomOf x.door) m.credential) :
    s.judgeGroup x group = s.denyGroup x .occupancyFull (group.map fun m => (m.credential, m.permit.carried)) := by
  simp [State.judgeGroup, State.capCheck, hfull, hdrained]

theorem State.judgeGroup_of_room (hfull : ¬(s.room (s.roomOf x.door)).settings.cap <
      s.entryCount (s.roomOf x.door) + group.countP fun m => !s.entryIn (s.roomOf x.door) m.credential)
    (hdrained : ¬s.freeCount < (group.countP fun m => !s.entryIn (s.roomOf x.door) m.credential) -
      group.countP fun m => s.entryElsewhere (s.roomOf x.door) m.credential) :
    s.judgeGroup x group = s.grantGroup x group := by
  simp [State.judgeGroup, State.capCheck, hfull, hdrained]

theorem State.tidy.entryIn_eq (h : s.tidy) (room : RoomNo) (c : Credential) :
    s.entryIn room c = (s.room room).entries.any fun e => e.credential == c := by
  rw [Bool.eq_iff_iff, List.any_eq_true]
  refine ⟨fun hin => ?_, fun ⟨e, he, hc⟩ => ?_⟩
  · obtain ⟨e, he, hc⟩ := State.mem_of_entryIn hin
    exact ⟨e, he, beq_iff_eq.mpr hc⟩
  · rw [State.entryIn, ← beq_iff_eq.mp hc, h.1.findEntry_of_mem he]
    simp

theorem State.entryElsewhere_eq (s : State) (room : RoomNo) (c : Credential) :
    s.entryElsewhere room c = (!s.entryIn room c && (s.findEntry c).isSome) := by
  unfold State.entryElsewhere State.entryIn
  split <;> simp [*]

end

/-! ## The re-checks of the held contractors (R77, R79) -/

/-- A failed re-check names a slot (R77). -/
theorem State.recheck_failed {s : State} {k : DoorNo} {reading : Clock} {role : Role} {m : Member} {reason : Reason}
    {permit : Option (Nat × Nat)} (h : s.recheck k reading role m = .failed reason permit) :
    ∃ n w, permit = some (n, w) := by
  have hroom {q : Qualifying} (h : s.recheckRoom k role m q = .failed reason permit) : ∃ n w, permit = some (n, w) := by
    unfold State.recheckRoom at h
    dsimp only at h
    split at h
    · exact ⟨_, _, (Recheck.failed.inj h).2.symm⟩
    · split at h
      · exact ⟨_, _, (Recheck.failed.inj h).2.symm⟩
      · cases h
  unfold State.recheck at h
  split at h
  · exact ⟨_, _, (Recheck.failed.inj h).2.symm⟩
  · split at h
    · exact ⟨_, _, (Recheck.failed.inj h).2.symm⟩
    · exact ⟨_, _, (Recheck.failed.inj h).2.symm⟩
    · exact hroom h

/-- A credential and the permit it is granted under, as a group member. -/
def memberOf (g : Credential × Qualifying) : GroupMember := ⟨g.1, g.2⟩

section
variable {s : State} {x : Arrival} {check : Member → Recheck}

/-- The denials of those that fail, in list order (R79). -/
theorem State.droppedReports_eq {reports : Member → List Report} (held : List Member)
    (hnamed : ∀ m reason permit, check m = .failed reason permit → ∃ n w, permit = some (n, w))
    (hfailed : ∀ m reason n w, check m = .failed reason (some (n, w)) →
      reports m = [s.deniedReport x.door x.reader reason m.credential n w])
    (hpassed : ∀ m held, check m = .passed held → reports m = []) :
    s.droppedReports x (held.map fun m => (m, check m)) = held.flatMap reports := by
  induction held with
  | nil => rfl
  | cons m held ih =>
    rw [List.flatMap_cons, ← ih, State.droppedReports, List.map_cons, List.filterMap_cons, State.droppedReports]
    cases hm : check m with
    | passed q => rw [hpassed m q hm]; rfl
    | failed reason permit =>
      obtain ⟨n, w, rfl⟩ := hnamed m reason permit hm
      rw [hfailed m reason n w hm]
      rfl

/-- Those that pass, in list order (R79). -/
theorem passedOf_eq {passes : Member → List (Credential × Qualifying)} (held : List Member)
    (hpassed : ∀ m q, check m = .passed q → passes m = [(m.credential, q)])
    (hfailed : ∀ m reason permit, check m = .failed reason permit → passes m = []) :
    passedOf (held.map fun m => (m, check m)) = (held.flatMap passes).map memberOf := by
  induction held with
  | nil => rfl
  | cons m held ih =>
    rw [List.flatMap_cons, List.map_append, ← ih, passedOf, List.map_cons, List.filterMap_cons, passedOf]
    cases hm : check m with
    | passed q => rw [hpassed m q hm]; rfl
    | failed reason permit => rw [hfailed m reason permit hm]; rfl

end

/-! ## What completes the record (R76 to R79) -/

section
variable {s : State} {x : Arrival} {p : PairingRecord}

theorem State.joinRecord_of_completing (h : x.permit.permit.role = .contractor ↔ p.escort.isSome = true) :
    s.joinRecord x p = s.complete x p := by
  cases hrole : x.permit.permit.role <;> cases hescort : p.escort <;>
    simp_all [State.joinRecord]

theorem State.complete_of_failed {e : Member} {reason : Reason} {permit : Option (Nat × Nat)}
    (hescort : p.escort = some e) (hcontractors : p.contractors = [])
    (hrecheck : s.recheck x.door x.reading .escort e = .failed reason permit) :
    s.complete x p = s.denyGroup x reason
      [(e.credential, some (e.slot, e.workOrder)), (x.credential, x.permit.carried)] := by
  simp [State.complete, hescort, hrecheck, PairingRecord.members, hcontractors]

theorem State.complete_of_passed {e : Member} {held : Qualifying} (hescort : p.escort = some e)
    (hcontractors : p.contractors = []) (hrecheck : s.recheck x.door x.reading .escort e = .passed held) :
    s.complete x p = s.judgeGroup x [⟨e.credential, held⟩, ⟨x.credential, x.permit⟩] := by
  simp [State.complete, hescort, hrecheck, hcontractors, State.completeWith, passedOf, State.droppedReports,
    State.submitAll]

/-- The held contractors that pass go on with the arriving escort (R79). -/
theorem State.complete_of_escort {kept : List GroupMember} (hescort : p.escort = none)
    (hkept : passedOf (p.contractors.map fun m => (m, s.recheck x.door x.reading .contractor m)) = kept)
    {dropped : List Report}
    (hdropped : s.droppedReports x (p.contractors.map fun m => (m, s.recheck x.door x.reading .contractor m)) = dropped) :
    s.complete x p = if kept = [] then
        (s.submitAll dropped).enterRecord x ((s.submitAll dropped).escortRecord x.member) none
      else (s.submitAll dropped).judgeGroup x (⟨x.credential, x.permit⟩ :: kept) := by
  simp [State.complete, hescort, State.completeWith, hkept, hdropped]

end

end Sys2Proof.Machine

namespace Sys2Proof.Machine

/-! ## The group of a completing arrival, in the statement's terms -/

section
variable {s : State} {x : Arrival} (group : List (Credential × Qualifying)) (room : RoomNo)

theorem hasMember_map (c : Credential) : hasMember (group.map memberOf) c = group.any fun g => g.1 == c := by
  rw [hasMember, List.any_map]
  rfl

theorem State.tidy.countP_entered (h : s.tidy) : ((group.map memberOf).countP fun m => !s.entryIn room m.credential) =
    group.countP fun g => !(s.room room).entries.any fun e => e.credential == g.1 := by
  simp only [List.countP_map, h.entryIn_eq]
  rfl

theorem State.tidy.countP_freed (h : s.tidy) :
    ((group.map memberOf).countP fun m => s.entryElsewhere room m.credential) =
      group.countP fun g => (!(s.room room).entries.any fun e => e.credential == g.1) && (s.findEntry g.1).isSome := by
  simp only [List.countP_map, State.entryElsewhere_eq, h.entryIn_eq]
  rfl

theorem State.placed_map : s.placed room (group.map memberOf) =
    (group.filter fun g => !(s.room room).entries.any fun e => e.credential == g.1 && e.state == .confirmed).map
      memberOf := by
  rw [State.placed, List.filter_map]
  rfl

theorem State.tidy.addedReferences_map (h : s.tidy) : s.addedReferences x (group.map memberOf) =
    (group.filter fun g => !(s.room (s.roomOf x.door)).entries.any fun e =>
      e.credential == g.1 && e.state == .confirmed).length := by
  rw [State.addedReferences, ← List.length_map (f := memberOf), ← State.placed_map, State.placed,
    List.countP_eq_length_filter]
  simp only [h.settled_eq]

variable {group} in
theorem State.grantedOver_map_of_some {g : Credential × Qualifying} {e : Entry} (reading : Clock)
    (h : group.find? (fun g => g.1 == e.credential) = some g) :
    s.grantedOver (group.map memberOf) reading e = e.regranted g.2 (s.entitledUntil g.2.permit reading) := by
  have hfound : (group.map memberOf).find? (fun m => m.credential == e.credential) = some (memberOf g) := by
    rw [List.find?_map]
    exact congrArg (Option.map memberOf) h
  rw [State.grantedOver, hfound]
  rfl

variable {group} in
theorem State.grantedOver_map_of_none {e : Entry} (reading : Clock)
    (h : group.find? (fun g => g.1 == e.credential) = none) :
    s.grantedOver (group.map memberOf) reading e = e := by
  have hnone : (group.map memberOf).find? (fun m => m.credential == e.credential) = none := by
    rw [List.find?_map]
    exact congrArg (Option.map memberOf) h
  rw [State.grantedOver, hnone]

/-- The records of a member's grant, in the statement's terms (R62, R64). -/
theorem State.memberReports_memberOf {g : Credential × Qualifying} (hg : g ∈ group) :
    s.memberReports x (memberOf g) =
      (sixteen.flatMap fun r => ((s.room r).entries.filter fun e => e.credential == g.1 &&
        (group.any (fun g => g.1 == e.credential) && !(r == s.roomOf x.door && e.state == .confirmed))).map fun e =>
          { kind := if r = s.roomOf x.door then .notEntered else .impliedExit, door := some e.door, room := some r
            credential := some g.1, slot := some e.slot, workOrder := some e.workOrder }) ++
      [{ kind := .entryGranted, door := some x.door, room := some (s.roomOf x.door), reader := some x.reader
         credential := some g.1, slot := some g.2.slot, workOrder := some g.2.permit.workOrder
         detail := s.entitledUntil g.2.permit x.reading }] := by
  refine congrArg (· ++ _) (List.flatMap_congr fun r _ => ?_)
  have hfilter : (s.room r).entries.filter (fun e => e.credential == g.1 &&
      (group.any (fun g => g.1 == e.credential) && !(r == s.roomOf x.door && e.state == .confirmed))) =
      (s.entriesOf r g.1).filter fun e => !(r == s.roomOf x.door && e.state == .confirmed) := by
    rw [State.entriesOf, List.filter_filter]
    refine List.filter_congr fun e _ => ?_
    by_cases hc : e.credential = g.1
    · have hmember : group.any (fun g => g.1 == e.credential) = true :=
        List.any_eq_true.mpr ⟨g, hg, beq_iff_eq.mpr hc.symm⟩
      rw [hmember, beq_iff_eq.mpr hc, decide_eq_true hc]
      simp
    · rw [beq_eq_false_iff_ne.mpr hc, decide_eq_false hc]
      simp
  rw [hfilter]
  refine List.map_congr_left fun e he => ?_
  have hc : e.credential = g.1 := of_decide_eq_true (List.mem_filter.mp (List.mem_of_mem_filter he)).2
  rw [removalReport, hc]
  rfl

/-- The rooms that are checked: those that members leave, and the door's after them (R86). -/
theorem State.eraseDups_roomsTouched (k : DoorNo) :
    (s.roomsTouched k ((group.map memberOf).map GroupMember.credential)).eraseDups =
      ((group.filterMap fun g => (s.findEntry g.1).map Prod.fst).filter (· ≠ s.roomOf k)).eraseDups ++ [s.roomOf k] := by
  have hothers : ((group.map memberOf).map GroupMember.credential).filterMap (fun c => (s.findEntry c).map Prod.fst) =
      group.filterMap fun g => (s.findEntry g.1).map Prod.fst := by
    rw [List.map_map, List.filterMap_map]
    rfl
  have hlast : [s.roomOf k].removeAll ((group.filterMap fun g => (s.findEntry g.1).map Prod.fst).filter
      (· ≠ s.roomOf k)) = [s.roomOf k] := by
    simp [List.removeAll]
  rw [State.roomsTouched, hothers, List.eraseDups_append, hlast]
  rfl

end

end Sys2Proof.Machine

namespace Sys2Proof.Machine

/-! ## The verdict on a group (R80, R81) -/

/-- A presentation of `x` at `s` comes to the verdict of a state `v`, with records `before` queued, on a group. -/
structure State.Judges (s v : State) (x : Arrival) (before : List Report) (group : List (Credential × Qualifying)) :
    Prop where
  qualifies : s.qualifiesAt x.reader x.door x.credential x.permit
  noted : s.Noted v x.reader before
  gathers : v.Gathers x (group.map memberOf)
  judged : (s.presented x.reader x.credential).present x.reader x.credential = v.judgeGroup x (group.map memberOf)

section
variable {s v : State} {x : Arrival} {before : List Report} {group : List (Credential × Qualifying)}
  (h : s.Judges v x before group)
include h

theorem State.Judges.failsWhole {reason : Reason} (hdenied : v.judgeGroup x (group.map memberOf) =
      v.denyGroup x reason ((group.map memberOf).map fun m => (m.credential, m.permit.carried))) :
    s.failsGroup x before reason (group.map fun g => (g.1, g.2.slot, g.2.permit.workOrder)) := by
  refine State.failsGroup_of_denyGroup h.qualifies h.noted (h.judged.trans (hdenied.trans ?_))
  rw [List.map_map, List.map_map]
  rfl

theorem State.Judges.fails_of_full (hfull : (v.room (v.roomOf x.door)).settings.cap <
      v.entryCount (v.roomOf x.door) +
        group.countP fun g => !(v.room (v.roomOf x.door)).entries.any fun e => e.credential == g.1) :
    s.failsGroup x before .roomFull (group.map fun g => (g.1, g.2.slot, g.2.permit.workOrder)) := by
  rw [← h.gathers.tidy.countP_entered] at hfull
  exact h.failsWhole (State.judgeGroup_of_full hfull)

section
variable (hfull : ¬(v.room (v.roomOf x.door)).settings.cap < v.entryCount (v.roomOf x.door) +
  group.countP fun g => !(v.room (v.roomOf x.door)).entries.any fun e => e.credential == g.1)
include hfull

theorem State.Judges.fails_of_drained (hdrained : v.freeCount <
      (group.countP fun g => !(v.room (v.roomOf x.door)).entries.any fun e => e.credential == g.1) -
        group.countP fun g => (!(v.room (v.roomOf x.door)).entries.any fun e => e.credential == g.1) &&
          (v.findEntry g.1).isSome) :
    s.failsGroup x before .occupancyFull (group.map fun g => (g.1, g.2.slot, g.2.permit.workOrder)) := by
  rw [← h.gathers.tidy.countP_entered] at hfull hdrained
  rw [← h.gathers.tidy.countP_freed] at hdrained
  exact h.failsWhole (State.judgeGroup_of_drained hfull hdrained)

variable (hdrained : ¬v.freeCount <
  (group.countP fun g => !(v.room (v.roomOf x.door)).entries.any fun e => e.credential == g.1) -
    group.countP fun g => (!(v.room (v.roomOf x.door)).entries.any fun e => e.credential == g.1) &&
      (v.findEntry g.1).isSome)
include hdrained

theorem State.Judges.judgeGroup_eq : v.judgeGroup x (group.map memberOf) = v.grantGroup x (group.map memberOf) := by
  rw [← h.gathers.tidy.countP_entered] at hfull hdrained
  rw [← h.gathers.tidy.countP_freed] at hdrained
  exact State.judgeGroup_of_room hfull hdrained

theorem State.Judges.fails_of_busy (hclosed : (v.door x.door).state = .secure ∨ (v.door x.door).state = .released)
    (hlist : 8 < (v.door x.door).provisional.length +
      (group.filter fun g => !(v.room (v.roomOf x.door)).entries.any fun e =>
        e.credential == g.1 && e.state == .confirmed).length) :
    s.failsGroup x before .doorBusy (group.map fun g => (g.1, g.2.slot, g.2.permit.workOrder)) := by
  rw [← h.gathers.tidy.addedReferences_map] at hlist
  exact h.failsWhole ((h.judgeGroup_eq hfull hdrained).trans (State.grantGroup_busy hclosed hlist))

/-- The presentation is answered with the grants of the whole group (R81). -/
theorem State.Judges.exec_eq (hidle : (v.door x.door).state ≠ .idle)
    (hlist : ¬(((v.door x.door).state = .secure ∨ (v.door x.door).state = .released) ∧
      8 < (v.door x.door).provisional.length +
        (group.filter fun g => !(v.room (v.roomOf x.door)).entries.any fun e =>
          e.credential == g.1 && e.state == .confirmed).length)) :
    exec (.replyReceived (replyFrame x.reader (s.reader x.reader).tamper (some x.credential))) s =
      .next (v.groupGranted x (group.map memberOf)) := by
  obtain ⟨⟨ind, ends, hloop⟩, -, hrepeats, -⟩ := h.qualifies
  rw [← h.gathers.tidy.addedReferences_map] at hlist
  have htaken := State.grantGroup_of_taken (s := v) (x := x) (group := group.map memberOf) hidle fun hclosed =>
    Nat.not_lt.mp fun hbusy => hlist ⟨hclosed, hbusy⟩
  rw [exec_replyReceived_presentation hloop hrepeats, h.judged, h.judgeGroup_eq hfull hdrained, htaken,
    h.gathers.foldl_withdrawMember]
  rfl

end

end

/-! ## The arrival that completes a record (R76) -/

/-- An arrival that qualifies, may enter a room that pairs up, and completes its door's record, in which it does not
wait. -/
structure State.Completes (s : State) (x : Arrival) (p : PairingRecord) : Prop where
  qualifies : s.qualifiesAt x.reader x.door x.credential x.permit
  reading : x.reading = s.clock
  enter : s.mayEnter x.door x.credential
  pairs : s.pairsUp (s.roomOf x.door)
  pairings : s.pairingsWf
  tidy : s.tidy
  record : s.pairing x.door = some p
  stranger : ∀ m ∈ p.members, m.credential ≠ x.credential
  roles : x.permit.permit.role = .contractor ↔ p.escort.isSome = true

section
variable {s : State} {x : Arrival} {p : PairingRecord} (h : s.Completes x p)
include h

theorem State.Completes.arrive_eq : (s.presented x.reader x.credential).arrive x =
    (s.presented x.reader x.credential).complete x p :=
  (State.arrive_of_stranger (by simpa using h.record) ((p.not_has_iff x.credential).mpr h.stranger)).trans
    (State.joinRecord_of_completing h.roles)

theorem State.Completes.present_eq : (s.presented x.reader x.credential).present x.reader x.credential =
    (s.presented x.reader x.credential).complete x p := by
  have harrival : (⟨x.door, x.reader, x.credential, x.permit, s.clock⟩ : Arrival) = x := by rw [← h.reading]
  rw [State.present_of_pairsUp h.qualifies h.enter h.pairs, harrival, h.arrive_eq]

/-- A record that holds an escort holds no contractor (R76). -/
theorem State.Completes.contractors_of_escort {e : Member} (hescort : p.escort = some e) : p.contractors = [] := by
  obtain ⟨-, hrecords, -, -⟩ := h.pairings
  simpa [PairingRecord.wf, hescort] using hrecords x.door p h.record

/-- A group of the arrival and of members that waited in the record is gathered where it is judged. -/
theorem State.Completes.gathers {v : State} {before : List Report} (hv : s.Noted v x.reader before)
    {group : List GroupMember} (hnodup : (group.map GroupMember.credential).Nodup)
    (harrival : x.credential ∈ group.map GroupMember.credential)
    (hwaits : ∀ m ∈ group, m.credential ≠ x.credential → m.credential ∈ p.members.map Member.credential) :
    v.Gathers x group := by
  obtain ⟨⟨readers, queue, next, lost, rfl⟩, -, -⟩ := hv
  have hmembers : s.membersAt x.door = p.members := State.membersAt_of_pairing h.record
  refine ⟨h.tidy, h.pairings, hnodup, harrival, fun m hm => h.stranger m ?_, fun m hm hne => ?_⟩
  · rw [← hmembers]
    exact hm
  · obtain ⟨y, hy, hc⟩ := List.mem_map.mp (hwaits m hm hne)
    rw [← hmembers] at hy
    exact ⟨y, hy, hc⟩

end

theorem State.presented_recheck (s : State) (a : ReaderNo) (c : Credential) (k : DoorNo) (reading : Clock) (role : Role)
    (m : Member) : (s.presented a c).recheck k reading role m = s.recheck k reading role m := by
  have hroom (q : Qualifying) : (s.presented a c).recheckRoom k role m q = s.recheckRoom k role m q :=
    Aside.presented (f := (·.recheckRoom k role m q)) (fun _ _ _ _ _ => rfl) s a c
  simp only [State.recheck, State.presented_stage2, State.presented_roomOf, State.presented_slotsOf,
    State.presented_searchPermits, hroom]

end Sys2Proof.Machine

namespace Sys2Proof.Machine

/-! ## The group granted, in the terms of the state before the presentation -/

section
variable {s v : State} {x : Arrival} {before : List Report} {group : List (Credential × Qualifying)}
  (h : s.Judges v x before group)
include h

theorem State.Judges.entries (r : RoomNo) : ((v.groupGranted x (group.map memberOf)).room r).entries =
    (((s.room r).entries.filter fun e => !(group.any (fun g => g.1 == e.credential) &&
      !(r == s.roomOf x.door && e.state == .confirmed))).map (s.grantedOver (group.map memberOf) x.reading)) ++
      if r = s.roomOf x.door then
        (group.filter fun g => !(s.room (s.roomOf x.door)).entries.any fun e =>
          e.credential == g.1 && e.state == .confirmed).map fun g =>
            s.newEntry x.door g.1 g.2 x.reading (decide (s.door x.door).wide)
      else [] := by
  have hentries := h.gathers.entries_groupGranted r
  obtain ⟨⟨readers, queue, next, lost, rfl⟩, -, -⟩ := h.noted
  rw [hentries, State.placed_map, List.map_map]
  simp only [Entry.leaves, hasMember_map]
  rfl

theorem State.Judges.door (j : DoorNo) : (v.groupGranted x (group.map memberOf)).door j =
    { (if j = x.door then (s.door x.door).releasing s.now else s.door j) with
      provisional := (s.door j).provisional.filter (fun c => !group.any fun g => g.1 == c) ++
        if j = x.door ∧ ¬(s.door x.door).wide then
          (group.filter fun g => !(s.room (s.roomOf x.door)).entries.any fun e =>
            e.credential == g.1 && e.state == .confirmed).map Prod.fst
        else [] } := by
  have hdoor := h.gathers.door_groupGranted j
  obtain ⟨⟨readers, queue, next, lost, rfl⟩, -, -⟩ := h.noted
  rw [hdoor, State.placed_map, List.map_map]
  simp only [hasMember_map, decide_eq_false_iff_not]
  rfl

theorem State.Judges.door_same : (v.groupGranted x (group.map memberOf)).door x.door =
    { (s.door x.door).releasing s.now with
      provisional := (s.door x.door).provisional.filter (fun c => !group.any fun g => g.1 == c) ++
        if (s.door x.door).wide then []
        else (group.filter fun g => !(s.room (s.roomOf x.door)).entries.any fun e =>
          e.credential == g.1 && e.state == .confirmed).map Prod.fst } := by
  rw [h.door]
  by_cases hwide : (s.door x.door).wide <;> simp [hwide]

theorem State.Judges.door_other {j : DoorNo} (hj : j ≠ x.door) : (v.groupGranted x (group.map memberOf)).door j =
    { s.door j with provisional := (s.door j).provisional.filter fun c => !group.any fun g => g.1 == c } := by
  rw [h.door]
  simp only [hj, false_and, if_false, List.append_nil]

theorem State.Judges.pairing (j : DoorNo) : (v.groupGranted x (group.map memberOf)).pairing j =
    if j = x.door then none else s.pairingWithout x.credential j := by
  have hpairing := h.gathers.pairing_groupGranted j
  obtain ⟨⟨readers, queue, next, lost, rfl⟩, -, -⟩ := h.noted
  exact hpairing

theorem State.Judges.slot (n : Nat) : (v.groupGranted x (group.map memberOf)).slot n =
    (s.slot n).map fun p => group.foldl (fun p g => s.memberCounted n (memberOf g) p) p := by
  have hslot := h.gathers.slot_groupGranted n
  obtain ⟨⟨readers, queue, next, lost, rfl⟩, -, -⟩ := h.noted
  simp only [List.foldl_map] at hslot
  exact hslot

theorem State.Judges.queue : (v.groupGranted x (group.map memberOf)).queue =
    (s.submitAll (before ++ s.abandonedReports x.credential ++ group.flatMap (fun g => s.memberReports x (memberOf g)) ++
      (((group.filterMap fun g => (s.findEntry g.1).map Prod.fst).filter (· ≠ s.roomOf x.door)).eraseDups ++
        [s.roomOf x.door]).flatMap (s.checkReport (v.groupGranted x (group.map memberOf))))).queue := by
  have hdesk := h.gathers.desk_groupGranted
  have hbefore := h.noted.desk
  rw [hbefore, State.eraseDups_roomsTouched, List.flatMap_map] at hdesk
  refine State.queue_eq_of_desk_eq ?_
  rw [hdesk, State.desk_submitAll, ← Desk.submitAll_append, ← List.append_assoc, ← List.append_assoc]
  obtain ⟨⟨readers, queue, next, lost, rfl⟩, -, -⟩ := h.noted
  rfl

theorem State.Judges.tells : (v.groupGranted x (group.map memberOf)).tells x.reader .grant := by
  obtain ⟨-, hassignment, -⟩ := h.qualifies
  refine h.gathers.groupGranted_tells (y := (x.door, .entry)) ?_ h.noted.online
  obtain ⟨⟨readers, queue, next, lost, rfl⟩, -, -⟩ := h.noted
  exact hassignment

end

/-! ## Who goes on, and who is dropped (R77 to R79) -/

/-- The denials of the held contractors that fail their re-check, in list order (R79). -/
def State.droppedBy (s : State) (x : Arrival) (held : List Member) : List Report :=
  held.flatMap fun m =>
    match s.recheck x.door x.reading .contractor m with
    | .failed reason (some (n, w)) => [s.deniedReport x.door x.reader reason m.credential n w]
    | .failed _ none | .passed _ => []

/-- The held contractors that pass their re-check, in list order (R79). -/
def State.keptBy (s : State) (x : Arrival) (held : List Member) : List (Credential × Qualifying) :=
  held.flatMap fun m =>
    match s.recheck x.door x.reading .contractor m with
    | .passed q => [(m.credential, q)]
    | .failed _ _ => []

section
variable (s : State) (x : Arrival) (held : List Member)

theorem State.droppedReports_eq_droppedBy : (s.presented x.reader x.credential).droppedReports x
    (held.map fun m => (m, (s.presented x.reader x.credential).recheck x.door x.reading .contractor m)) =
      s.droppedBy x held := by
  simp only [State.presented_recheck]
  refine State.droppedReports_eq held (fun m reason permit hm => State.recheck_failed hm)
    (fun m reason n w hm => ?_) fun m q hm => ?_
  · simp only [hm, State.deniedReport, State.presented_roomOf]
  · simp only [hm]

theorem passedOf_eq_keptBy : passedOf
    (held.map fun m => (m, (s.presented x.reader x.credential).recheck x.door x.reading .contractor m)) =
      (s.keptBy x held).map memberOf := by
  simp only [State.presented_recheck]
  refine passedOf_eq held (fun m q hm => ?_) fun m reason permit hm => ?_
  · simp only [hm]
  · simp only [hm]

theorem State.keptBy_credentials : ((s.keptBy x held).map Prod.fst).Sublist (held.map Member.credential) := by
  have hsub := passedOf_credentials
    ((s.presented x.reader x.credential).recheck x.door x.reading .contractor) held
  rw [passedOf_eq_keptBy, List.map_map] at hsub
  exact hsub

end

section
variable {s : State} {x : Arrival} {p : PairingRecord} (h : s.Completes x p)
include h

theorem State.Completes.online : (s.reader x.reader).state ≠ .offline := by
  obtain ⟨-, -, -, honline, -⟩ := h.qualifies
  exact honline

/-- A held escort that fails its re-check fails both (R78). -/
theorem State.Completes.fails_of_escort {e : Member} {reason : Reason} {permit : Option (Nat × Nat)}
    (hescort : p.escort = some e) (hrecheck : s.recheck x.door x.reading .escort e = .failed reason permit) :
    s.failsGroup x [] reason
      [(e.credential, e.slot, e.workOrder), (x.credential, x.permit.slot, x.permit.permit.workOrder)] := by
  refine State.failsGroup_of_denyGroup h.qualifies (State.noted_submitAll h.online x.credential []) ?_
  rw [h.present_eq]
  exact State.complete_of_failed hescort (h.contractors_of_escort hescort) (by rwa [State.presented_recheck])

/-- An arriving escort left with no contractor waits in a record of its own (R79). -/
theorem State.Completes.waits (hescort : p.escort = none) (hkept : s.keptBy x p.contractors = []) :
    s.waits x (s.droppedBy x p.contractors ++ s.abandonedReports x.credential) 1
      ⟨some x.member, [], s.now, s.now + s.params.pairingWindow * 1000⟩ := by
  have hcomplete := State.complete_of_escort (s := s.presented x.reader x.credential) hescort
    ((passedOf_eq_keptBy s x p.contractors).trans (congrArg (List.map memberOf) hkept))
    (s.droppedReports_eq_droppedBy x p.contractors)
  rw [List.map_nil, if_pos rfl, State.enterRecord_eq] at hcomplete
  have harrive := h.arrive_eq.trans hcomplete
  have hnoted := State.noted_submitAll h.online x.credential (s.droppedBy x p.contractors)
  obtain ⟨k, a, c, q, reading⟩ := x
  obtain rfl : reading = s.clock := h.reading
  obtain ⟨⟨readers, queue, next, lost, hform⟩, -, hdesk⟩ := hnoted
  have hwf : ((s.presented a c).submitAll (s.droppedBy ⟨k, a, c, q, s.clock⟩ p.contractors)).pairingsWf := by
    rw [hform]
    exact h.pairings
  have hrecord : ((s.presented a c).submitAll (s.droppedBy ⟨k, a, c, q, s.clock⟩ p.contractors)).escortRecord
      (Arrival.member ⟨k, a, c, q, s.clock⟩) = ⟨some (Arrival.member ⟨k, a, c, q, s.clock⟩), [], s.now,
        s.now + s.params.pairingWindow * 1000⟩ := by
    rw [hform]
    rfl
  rw [hrecord] at harrive
  refine State.waits_of_arrive h.qualifies h.enter h.pairs harrive (by simp) (by simp) (by simp) (by simp) ?_ fun j => ?_
  · rw [State.desk_entered _ _ _ _ hwf, hdesk, ← Desk.submitAll_append, hform]
    simp only [Option.toList_none, List.map_nil, List.append_nil]
    rfl
  · rw [State.pairing_entered _ _ _ _ hwf, hform]
    rfl

/-- The group of a held escort that passes, and of the arriving contractor (R76). -/
theorem State.Completes.judges_contractor {e : Member} {held : Qualifying} (hescort : p.escort = some e)
    (hrecheck : s.recheck x.door x.reading .escort e = .passed held) :
    s.Judges ((s.presented x.reader x.credential).submitAll []) x [] [(e.credential, held), (x.credential, x.permit)] := by
  have hnoted := State.noted_submitAll h.online x.credential []
  have hmember : e ∈ p.members := by simp [PairingRecord.members, hescort]
  have hne := h.stranger e hmember
  refine ⟨h.qualifies, hnoted, h.gathers hnoted ?_ ?_ ?_, ?_⟩
  · simpa [memberOf] using hne
  · simp [memberOf]
  · intro m hm hother
    have hm : m = memberOf (e.credential, held) := by
      refine (List.mem_cons.mp hm).resolve_right fun hlast => hother ?_
      rw [List.mem_singleton.mp hlast]
      rfl
    rw [hm]
    exact List.mem_map_of_mem hmember
  · rw [h.present_eq]
    exact State.complete_of_passed hescort (h.contractors_of_escort hescort) (by rwa [State.presented_recheck])

/-- The group of an arriving escort and of the held contractors that pass (R76, R79). -/
theorem State.Completes.judges_escort (hescort : p.escort = none) (hkept : s.keptBy x p.contractors ≠ []) :
    s.Judges ((s.presented x.reader x.credential).submitAll (s.droppedBy x p.contractors)) x
      (s.droppedBy x p.contractors) ((x.credential, x.permit) :: s.keptBy x p.contractors) := by
  have hcomplete := State.complete_of_escort (s := s.presented x.reader x.credential) hescort
    (passedOf_eq_keptBy s x p.contractors) (s.droppedReports_eq_droppedBy x p.contractors)
  have hnoted := State.noted_submitAll h.online x.credential (s.droppedBy x p.contractors)
  have hmembers : p.members = p.contractors := by simp [PairingRecord.members, hescort]
  have hsub := s.keptBy_credentials x p.contractors
  have hnodup : (p.contractors.map Member.credential).Nodup := by
    obtain ⟨-, -, hwaiting, -⟩ := h.pairings
    rw [State.waiting_eq] at hwaiting
    have hdoor := (List.nodup_flatMap.mp hwaiting).1 x.door (mem_sixteen _)
    rwa [State.membersAt_of_pairing h.record, hmembers] at hdoor
  have hcredentials : (((x.credential, x.permit) :: s.keptBy x p.contractors).map memberOf).map
      GroupMember.credential = x.credential :: (s.keptBy x p.contractors).map Prod.fst := by
    rw [List.map_map]
    rfl
  refine ⟨h.qualifies, hnoted, h.gathers hnoted ?_ ?_ fun m hm hother => ?_, ?_⟩
  · rw [hcredentials, List.nodup_cons]
    refine ⟨fun hin => ?_, hnodup.sublist hsub⟩
    obtain ⟨m, hm, hc⟩ := List.mem_map.mp (hsub.subset hin)
    exact h.stranger m (hmembers ▸ hm) hc
  · rw [hcredentials]
    exact List.mem_cons_self
  · have hm : m.credential ∈ x.credential :: (s.keptBy x p.contractors).map Prod.fst :=
      hcredentials ▸ List.mem_map_of_mem hm
    rw [hmembers]
    exact hsub.subset ((List.mem_cons.mp hm).resolve_left hother)
  · rw [h.present_eq, hcomplete, if_neg (by simpa using hkept)]
    rfl

end

end Sys2Proof.Machine

namespace Sys2Proof.Machine

/-- Settles O54: the held escort's re-check, the dropped contractors, and then the group's verdict. -/
theorem groupsAreCompleted : Obligations.GroupsAreCompleted := by
  intro s a k c q p hqualifies henter hpairs hpairings hocc href hp hnew hrole room d answers closed fails dropped kept
  have h : s.Completes ⟨k, a, c, q, s.clock⟩ p :=
    ⟨hqualifies, rfl, henter, hpairs, hpairings, State.tidy_of_wf hocc href, hp, hnew, hrole⟩
  have hkept : kept = s.keptBy ⟨k, a, c, q, s.clock⟩ p.contractors := rfl
  have hdropped : dropped = s.droppedBy ⟨k, a, c, q, s.clock⟩ p.contractors := rfl
  refine ⟨fun e reason permit hescort hrecheck => h.fails_of_escort hescort hrecheck, fun hescort hnone => ?_,
    fun group hgroup => ?_⟩
  · obtain ⟨t, hanswer, htells, hpairing, hqueue, hclosed⟩ := h.waits hescort (hkept ▸ hnone)
    exact ⟨t, hanswer, htells, hclosed, hpairing, hqueue⟩
  intro member entered settled placed adds freed full drained busy wide failsWhole leaves left entry grants others
  obtain ⟨v, hjudges⟩ : ∃ v, s.Judges v ⟨k, a, c, q, s.clock⟩ dropped group := by
    rcases hgroup with ⟨e, held, hescort, hrecheck, rfl⟩ | ⟨hescort, hsome, rfl⟩
    · have hnone : dropped = [] := by rw [hdropped, h.contractors_of_escort hescort]; rfl
      rw [hnone]
      exact ⟨_, h.judges_contractor hescort hrecheck⟩
    · exact ⟨_, h.judges_escort hescort (hkept ▸ hsome)⟩
  obtain ⟨⟨readers, queue, next, lost, rfl⟩, -, -⟩ := id hjudges.noted
  refine ⟨fun hfull => hjudges.fails_of_full hfull, fun hfull hdrained => hjudges.fails_of_drained hfull hdrained,
    fun hfull hdrained hbusy => hjudges.fails_of_busy hfull hdrained hbusy.1 hbusy.2,
    fun hfull hdrained hbusy hidle => ⟨_, hjudges.exec_eq hfull hdrained hidle hbusy, hjudges.tells, hjudges.pairing,
      hjudges.door_same, fun j hj => hjudges.door_other hj, fun r => ?_, hjudges.slot, ?_⟩⟩
  · have hentry (g : Credential × Qualifying) :
        s.newEntry k g.1 g.2 s.clock (decide (s.door k).wide) = entry g :=
      State.newEntry_eq_grantedEntry rfl k g.1 g.2
    rw [hjudges.entries, List.map_congr_left fun g _ => hentry g]
    refine congrArg (· ++ _) (List.map_congr_left fun e _ => ?_)
    cases hfind : group.find? (fun g => g.1 == e.credential) with
    | some g => exact State.grantedOver_map_of_some s.clock hfind
    | none => exact State.grantedOver_map_of_none s.clock hfind
  · have hgrants : group.flatMap (fun g => s.memberReports ⟨k, a, c, q, s.clock⟩ (memberOf g)) = group.flatMap grants :=
      List.flatMap_congr fun g hg => State.memberReports_memberOf group hg
    rw [hjudges.queue, hgrants]

end Sys2Proof.Machine

/-! # What keeps the settings (O60)

The settings are the controller parameters, the rooms' and the doors' settings, and the inputs' modes and polarities.
Beside POWER_ON only the four requests that set them write any of these, and they are refused in RUNNING. Each
operation of the blocks has one equation here that says that it keeps the settings. -/

namespace Sys2Proof.Machine

/-! ## One door, room or input -/

/-- The settings are the parameters and what each room, door and input has of its own. -/
theorem State.settings_congr {s t : State} (hparams : t.params = s.params)
    (hrooms : ∀ q, (t.room q).settings = (s.room q).settings)
    (hdoors : ∀ k, (t.door k).settings = (s.door k).settings)
    (hinputs : ∀ i, (t.input i).mode = (s.input i).mode ∧ (t.input i).polarity = (s.input i).polarity) :
    t.settings = s.settings := by
  have same {α β : Type} {n : Nat} {v w : Vector α n} {f : α → β} (h : ∀ i : Fin n, f v[i] = f w[i]) :
      v.toList.map f = w.toList.map f :=
    List.ext_getElem (by simp) fun i hi _ => by
      simpa using h ⟨i, by simpa using hi⟩
  rw [State.settings, State.settings, hparams, same hrooms, same hdoors,
    same (v := t.inputs) (w := s.inputs) (f := fun x => (x.mode, x.polarity)) fun i =>
      Prod.ext (hinputs i).1 (hinputs i).2]

/-- A fold of operations that keep the settings keeps them. -/
theorem State.foldl_settings {α : Type} {f : State → α → State} (hf : ∀ s a, (f s a).settings = s.settings)
    (l : List α) (s : State) : (l.foldl f s).settings = s.settings :=
  foldl_keeps (P := fun t => t.settings = s.settings) (fun t a h => (hf t a).trans h) l s rfl

section
variable (s : State)

@[simp] theorem State.submit_settings (r : Report) : (s.submit r).settings = s.settings := by
  simp [State.settings]

@[simp] theorem State.submitAll_settings (rs : List Report) : (s.submitAll rs).settings = s.settings := by
  simp [State.settings]

@[simp] theorem State.setReader_settings (a : ReaderNo) (x : Reader) : (s.setReader a x).settings = s.settings := rfl

@[simp] theorem State.modifyReader_settings (a : ReaderNo) (f : Reader → Reader) :
    (s.modifyReader a f).settings = s.settings := rfl

@[simp] theorem State.setPairing_settings (k : DoorNo) (p : Option PairingRecord) :
    (s.setPairing k p).settings = s.settings := rfl

@[simp] theorem State.reach_settings (moment : Nat) : (s.reach moment).settings = s.settings := rfl

@[simp] theorem State.raiseCount_settings (n : Nat) : (s.raiseCount n).settings = s.settings := rfl

@[simp] theorem State.returnCount_settings (n : Nat) (c : Credential) (w : Nat) :
    (s.returnCount n c w).settings = s.settings := rfl

variable {s}

/-- A changed room that keeps its own settings. -/
theorem State.modifyRoom_settings {q : RoomNo} {f : Room → Room} (h : (f (s.room q)).settings = (s.room q).settings) :
    (s.modifyRoom q f).settings = s.settings := by
  refine State.settings_congr rfl (fun p => ?_) (fun _ => rfl) fun _ => ⟨rfl, rfl⟩
  rw [State.room_modifyRoom]
  split
  next hp => exact hp ▸ h
  next => rfl

/-- A changed door that keeps its own settings. -/
theorem State.modifyDoor_settings {k : DoorNo} {f : DoorChannel → DoorChannel}
    (h : (f (s.door k)).settings = (s.door k).settings) : (s.modifyDoor k f).settings = s.settings := by
  refine State.settings_congr rfl (fun _ => rfl) (fun j => ?_) fun _ => ⟨rfl, rfl⟩
  rw [State.door_modifyDoor]
  split
  next hj => exact hj ▸ h
  next => rfl

/-- A door that makes the same claims keeps its settings. -/
theorem State.modifyDoor_settings_of_claims {k : DoorNo} {f : DoorChannel → DoorChannel}
    (h : (f (s.door k)).claims = (s.door k).claims) : (s.modifyDoor k f).settings = s.settings :=
  State.modifyDoor_settings (congrArg Prod.fst h)

/-- A changed input that keeps its own mode and polarity. -/
theorem State.modifyInput_settings {i : InputNo} {f : InputLine → InputLine}
    (hmode : (f (s.input i)).mode = (s.input i).mode) (hpolarity : (f (s.input i)).polarity = (s.input i).polarity) :
    (s.modifyInput i f).settings = s.settings := by
  refine State.settings_congr rfl (fun _ => rfl) (fun _ => rfl) fun j => ?_
  rw [State.input_modifyInput]
  split
  next hj => exact hj ▸ ⟨hmode, hpolarity⟩
  next => exact ⟨rfl, rfl⟩

end

/-! ## Occupancy (R86, R95 to R98, R101, R106) -/

section
variable (s : State)

@[simp] theorem State.supervise_settings (q : RoomNo) : (s.supervise q).settings = s.settings := by
  rw [State.supervise_eq, State.submitAll_settings]
  exact s.modifyRoom_settings (f := Room.supervised) rfl

@[simp] theorem State.superviseAll_settings (l : List RoomNo) : (s.superviseAll l).settings = s.settings :=
  State.foldl_settings State.supervise_settings l s

@[simp] theorem State.placeEntry_settings (q : RoomNo) (e : Entry) : (s.placeEntry q e).settings = s.settings :=
  State.modifyRoom_settings rfl

@[simp] theorem State.changeEntry_settings (q : RoomNo) (c : Credential) (f : Entry → Entry) :
    (s.changeEntry q c f).settings = s.settings :=
  State.modifyRoom_settings rfl

@[simp] theorem State.addReference_settings (k : DoorNo) (c : Credential) :
    (s.addReference k c).settings = s.settings :=
  State.modifyDoor_settings rfl

@[simp] theorem State.clearReferences_settings (k : DoorNo) : (s.clearReferences k).settings = s.settings :=
  State.modifyDoor_settings rfl

@[simp] theorem State.dropEntry_settings (q : RoomNo) (e : Entry) : (s.dropEntry q e).settings = s.settings := by
  unfold State.dropEntry
  dsimp only
  split
  · exact (State.modifyDoor_settings rfl).trans (State.modifyRoom_settings rfl)
  · exact State.modifyRoom_settings rfl

@[simp] theorem State.removeEntry_settings (kind : RecordKind) (q : RoomNo) (e : Entry) :
    (s.removeEntry kind q e).settings = s.settings := by
  simp [State.removeEntry]

@[simp] theorem State.notEntered_settings (q : RoomNo) (e : Entry) : (s.notEntered q e).settings = s.settings := by
  simp [State.notEntered]

@[simp] theorem State.clearEntry_settings (q : RoomNo) (e : Entry) : (s.clearEntry q e).settings = s.settings := by
  simp [State.clearEntry]

theorem State.dropReference_settings (k : DoorNo) (c : Credential) : (s.dropReference k c).settings = s.settings := by
  unfold State.dropReference
  split
  · exact State.notEntered_settings _ _ _
  · rfl

@[simp] theorem State.dropReferences_settings (k : DoorNo) : (s.dropReferences k).settings = s.settings := by
  rw [State.dropReferences_eq, State.superviseAll_settings, State.clearReferences_settings]
  exact State.foldl_settings (fun t c => t.dropReference_settings k c) _ s

theorem State.confirmReference_settings (k : DoorNo) (c : Credential) :
    (s.confirmReference k c).settings = s.settings := by
  unfold State.confirmReference
  split
  · exact State.changeEntry_settings _ _ _ _
  · rfl

@[simp] theorem State.confirmReferences_settings (k : DoorNo) : (s.confirmReferences k).settings = s.settings := by
  rw [State.confirmReferences_eq, State.superviseAll_settings, State.clearReferences_settings]
  exact State.foldl_settings (fun t c => t.confirmReference_settings k c) _ s

theorem State.overstayRoom_settings (a : Nat) (q : RoomNo) : (s.overstayRoom a q).settings = s.settings :=
  (State.submitAll_settings _ _).trans (State.modifyRoom_settings rfl)

@[simp] theorem State.minuteSignal_settings (reading : Clock) : (s.minuteSignal reading).settings = s.settings := by
  unfold State.minuteSignal
  split
  · exact State.foldl_settings (fun t q => t.overstayRoom_settings _ q) sixteen s
  · rfl

/-! ## The clock (R26 to R33) -/

@[simp] theorem State.dateChange_settings (old : Date) : (s.dateChange old).settings = s.settings := by
  rw [State.dateChange_eq]
  split <;> rfl

@[simp] theorem State.reportUnset_settings (old : ClockState) : (s.reportUnset old).settings = s.settings := by
  unfold State.reportUnset
  split <;> simp

@[simp] theorem State.stepTime_settings (new : Clock) : (s.stepTime new).settings = s.settings := by
  rw [State.stepTime, State.submit_settings, State.dateChange_settings]
  rfl

@[simp] theorem State.markMinute_settings : s.markMinute.settings = s.settings := by
  have marked : (State.restartTimebase { s with clock := s.clock.marked }).settings = s.settings := rfl
  unfold State.markMinute
  dsimp only
  split <;> simp [marked]

/-! ## Readers, the loop and the trunk (R157, R160, R161, R164, R169, R170) -/

@[simp] theorem State.post_settings (a : ReaderNo) (ind : Indication) : (s.post a ind).settings = s.settings := by
  obtain ⟨_, h⟩ := s.post_form a ind
  rw [h]
  rfl

@[simp] theorem State.postAtDoor_settings (k : DoorNo) (ind : Indication) :
    (s.postAtDoor k ind).settings = s.settings := by
  unfold State.postAtDoor
  split <;> simp

@[simp] theorem State.readerMissed_settings (a : ReaderNo) : (s.readerMissed a).settings = s.settings := by
  unfold State.readerMissed
  dsimp only
  split <;> simp

@[simp] theorem State.readerHeard_settings (a : ReaderNo) : (s.readerHeard a).settings = s.settings := by
  obtain ⟨_, _, _, _, h⟩ := s.readerHeard_form a
  rw [h]
  rfl

@[simp] theorem State.readerTamper_settings (a : ReaderNo) (tamper : Option Bool) :
    (s.readerTamper a tamper).settings = s.settings := by
  unfold State.readerTamper
  split
  · rfl
  · split
    · rfl
    · dsimp only
      split <;> simp

@[simp] theorem State.advanceLoop_settings : s.advanceLoop.settings = s.settings := by
  rcases s.advanceLoop_cases with ⟨_, _, _, _, h⟩ | ⟨_, _, _, _, _, h⟩ <;> rw [h] <;> rfl

@[simp] theorem State.restartLoop_settings : s.restartLoop.settings = s.settings := by
  rw [State.restartLoop, State.advanceLoop_settings]
  rfl

@[simp] theorem State.beginRound_settings : s.beginRound.settings = s.settings := by
  unfold State.beginRound
  split <;> rfl

@[simp] theorem State.takeFrame_settings (keepWindow : Bool) : (s.takeFrame keepWindow).settings = s.settings := by
  have heard : s.linkHeard.settings = s.settings := by
    obtain ⟨_, _, _, h⟩ := s.linkHeard_form
    rw [h]
    rfl
  unfold State.takeFrame
  split
  · exact heard
  · exact heard

@[simp] theorem State.takeFrame_run (keepWindow : Bool) : (s.takeFrame keepWindow).run = s.run := by
  unfold State.takeFrame
  split
  · exact s.linkHeard_run
  · exact s.linkHeard_run

@[simp] theorem State.respond_settings (r : Req) (code : Byte) (reply : Reply) :
    (s.respond r code reply).settings = s.settings := by
  unfold State.respond
  split <;> rfl

/-! ## Pairing records (R71, R82 to R85) -/

@[simp] theorem State.denyMembers_settings (k : DoorNo) (reason : Reason) :
    (s.denyMembers k reason).settings = s.settings := by
  obtain ⟨_, _, _, _, h⟩ := s.denyMembers_form k reason
  rw [h]
  rfl

@[simp] theorem State.cancelPairing_settings (k : DoorNo) : (s.cancelPairing k).settings = s.settings := by
  unfold State.cancelPairing
  split <;> simp

@[simp] theorem State.withdrawMember_settings (c : Credential) : (s.withdrawMember c).settings = s.settings := by
  obtain ⟨_, _, _, _, h⟩ := s.withdrawMember_form c
  rw [h]
  rfl

@[simp] theorem State.revokeMember_settings (c : Credential) : (s.revokeMember c).settings = s.settings := by
  unfold State.revokeMember
  split <;> simp

/-! ## Doors (chapter 7) -/

section
variable (k : DoorNo)

@[simp] theorem State.requestRelease_settings (n : Nat) : (s.requestRelease k n).2.settings = s.settings :=
  State.modifyDoor_settings_of_claims (f := fun d => (d.requestRelease s.now n).2) (by simp)

@[simp] theorem State.openAuthorised_settings : (s.openAuthorised k).settings = s.settings :=
  (State.modifyDoor_settings_of_claims (by simp)).trans (s.confirmReferences_settings k)

@[simp] theorem State.doorOpens_settings : (s.doorOpens k).settings = s.settings := by
  unfold State.doorOpens
  split
  · exact (State.submit_settings _ _).trans (State.modifyDoor_settings rfl)
  · exact s.openAuthorised_settings k
  all_goals rfl

@[simp] theorem State.doorCloses_settings : (s.doorCloses k).settings = s.settings :=
  (State.submitAll_settings _ _).trans (State.modifyDoor_settings_of_claims (by simp))

@[simp] theorem State.firstLevel_settings (level : Level) : (s.firstLevel k level).settings = s.settings := by
  have opened : ((if (s.door k).release.isSome then s.confirmReferences k else s).modifyDoor k
      fun d => d.openedAuthorised s.now).settings = s.settings := by
    rw [State.modifyDoor_settings_of_claims (by simp)]
    split <;> simp
  unfold State.firstLevel
  dsimp only
  split
  · exact opened
  · exact opened
  · rfl

@[simp] theorem State.rexPressed_settings : (s.rexPressed k).settings = s.settings := by
  have pressed : (s.modifyDoor k fun d => d.pressed s.now).settings = s.settings :=
    State.modifyDoor_settings_of_claims (by simp)
  unfold State.rexPressed
  dsimp only
  split
  · rfl
  · split
    · rw [State.requestRelease_settings, pressed]
    · exact pressed

@[simp] theorem State.settleDoor_settings : (s.settleDoor k).settings = s.settings :=
  State.modifyDoor_settings_of_claims (by simp)

@[simp] theorem State.enterMode_settings (mode : DoorMode) : (s.enterMode mode k).settings = s.settings := by
  have dropped : ((s.cancelPairing k).dropReferences k).settings = s.settings := by simp
  cases mode with
  | normal => rfl
  | lockdown => exact (State.modifyDoor_settings_of_claims (by simp)).trans dropped
  | outOfService =>
    exact (State.submitAll_settings _ _).trans ((State.modifyDoor_settings rfl).trans dropped)

@[simp] theorem State.setMode_settings (mode : DoorMode) : (s.setMode mode k).settings = s.settings := by
  have changed : (s.modifyDoor k fun d => { d with mode := mode }).settings = s.settings :=
    State.modifyDoor_settings rfl
  unfold State.setMode
  dsimp only
  split
  · rfl
  · split <;> simp [changed]

theorem State.stopDoor_settings : (s.stopDoor k).settings = s.settings :=
  (State.submitAll_settings _ _).trans (State.modifyDoor_settings rfl)

end

@[simp] theorem State.cancelAllPairings_settings : s.cancelAllPairings.settings = s.settings :=
  State.foldl_settings State.cancelPairing_settings sixteen s

@[simp] theorem State.denyAllPairings_settings : s.denyAllPairings.settings = s.settings :=
  State.foldl_settings (fun t k => t.denyMembers_settings k _) sixteen s

@[simp] theorem State.dropAllReferences_settings : s.dropAllReferences.settings = s.settings :=
  State.foldl_settings State.dropReferences_settings sixteen s

@[simp] theorem State.stopDoors_settings : s.stopDoors.settings = s.settings :=
  State.foldl_settings State.stopDoor_settings sixteen s

/-! ## Revocation (R103, R104, R113) -/

@[simp] theorem State.placeRevocation_settings (c : Credential) : (s.placeRevocation c).settings = s.settings := by
  unfold State.placeRevocation
  split
  · rfl
  · split
    · rfl
    · unfold State.overflow
      dsimp only
      split
      · exact State.submit_settings _ _
      · rfl

@[simp] theorem State.revokeEntry_settings (c : Credential) : (s.revokeEntry c).2.settings = s.settings := by
  unfold State.revokeEntry
  split
  · rfl
  · split
    · rw [State.supervise_settings, State.modifyDoor_settings_of_claims (by simp), State.notEntered_settings]
    · split <;> simp

end

end Sys2Proof.Machine

namespace Sys2Proof.Machine

section
variable (s : State)

/-! ## The entry decision (chapters 3 and 4) -/

section
variable (k : DoorNo) (a : ReaderNo) (c : Credential)

@[simp] theorem State.deny_settings (reason : Reason) (permit : Option (Nat × Nat)) :
    (s.deny k a c reason permit).settings = s.settings := by
  simp [State.deny]

@[simp] theorem State.regrant_settings (e : Entry) : (s.regrant k a e).settings = s.settings := by
  rw [State.regrant, State.post_settings, State.submit_settings]
  exact State.modifyDoor_settings_of_claims (by simp)

@[simp] theorem State.removeOldEntry_settings (q : RoomNo) (e : Entry) :
    (s.removeOldEntry k q e).settings = s.settings := by
  unfold State.removeOldEntry
  split
  · simp
  · split <;> simp

@[simp] theorem State.placeGranted_settings (q : Qualifying) (reading : Clock) (atOnce : Bool) :
    (s.placeGranted k c q reading atOnce).settings = s.settings := by
  unfold State.placeGranted
  dsimp only
  split <;> simp

@[simp] theorem State.applyGrant_settings (q : Qualifying) (reading : Clock) (atOnce : Bool) :
    (s.applyGrant k a c q reading atOnce).settings = s.settings := by
  unfold State.applyGrant
  dsimp only
  rw [State.submit_settings, State.raiseCount_settings]
  split
  · simp
  · split <;> simp

@[simp] theorem State.grantSingle_settings (q : Qualifying) (entries : Nat) (reading : Clock) :
    (s.grantSingle k a c q entries reading).settings = s.settings := by
  have taken := s.requestRelease_settings k entries
  unfold State.grantSingle
  split
  · simp
  next h =>
    rw [h] at taken
    simpa using taken

end

/-! ## Pairing (chapter 4) -/

section
variable (x : Arrival)

@[simp] theorem State.wait_settings (members : Nat) : (s.wait x members).settings = s.settings := by
  simp [State.wait]

@[simp] theorem State.enterRecord_settings (p : PairingRecord) (displaced : Option Member) :
    (s.enterRecord x p displaced).settings = s.settings := by
  unfold State.enterRecord
  dsimp only
  rw [State.wait_settings]
  split <;> simp

@[simp] theorem State.denyGroup_settings (reason : Reason) (members : List (Credential × Option (Nat × Nat))) :
    (s.denyGroup x reason members).settings = s.settings := by
  simp [State.denyGroup]

@[simp] theorem State.applyGroup_settings (group : List GroupMember) (atOnce : Bool) :
    (s.applyGroup x group atOnce).settings = s.settings :=
  State.foldl_settings (fun t _ => t.applyGrant_settings _ _ _ _ _ _) group s

@[simp] theorem State.grantGroup_settings (group : List GroupMember) :
    (s.grantGroup x group).settings = s.settings := by
  have taken := s.requestRelease_settings x.door
    (group.countP fun m => !s.holdsConfirmed (s.roomOf x.door) m.credential)
  unfold State.grantGroup
  dsimp only
  split
  · simp
  next h =>
    rw [h] at taken
    rw [State.superviseAll_settings, State.post_settings, State.applyGroup_settings,
      State.foldl_settings fun t (m : GroupMember) => t.withdrawMember_settings m.credential]
    exact taken

@[simp] theorem State.judgeGroup_settings (group : List GroupMember) :
    (s.judgeGroup x group).settings = s.settings := by
  unfold State.judgeGroup
  dsimp only
  split <;> simp

@[simp] theorem State.completeWith_settings (escort : GroupMember) (held : List Member) (arriving : List GroupMember) :
    (s.completeWith x escort held arriving).settings = s.settings := by
  unfold State.completeWith
  dsimp only
  split <;> simp

@[simp] theorem State.complete_settings (p : PairingRecord) : (s.complete x p).settings = s.settings := by
  unfold State.complete
  split
  · simp
  · split <;> simp

theorem State.openRecord_settings : (s.openRecord x).settings = s.settings := by
  unfold State.openRecord
  split
  · simp
  · split <;> simp

theorem State.joinRecord_settings (p : PairingRecord) : (s.joinRecord x p).settings = s.settings := by
  unfold State.joinRecord
  split
  · split <;> simp
  all_goals simp

@[simp] theorem State.arrive_settings : (s.arrive x).settings = s.settings := by
  unfold State.arrive
  split
  · exact s.openRecord_settings x
  · split
    · exact s.wait_settings x _
    · exact s.joinRecord_settings x _

@[simp] theorem State.stage5_settings : (s.stage5 x).settings = s.settings := by
  unfold State.stage5
  dsimp only
  split
  · simp
  · simp
  · split <;> simp

@[simp] theorem State.decideRoom_settings : (s.decideRoom x).settings = s.settings := by
  unfold State.decideRoom
  split <;> simp

end

/-! ## Presentations and replies (R43, R66, R162) -/

section
variable (k : DoorNo) (a : ReaderNo) (c : Credential)

@[simp] theorem State.entryPresentation_settings : (s.entryPresentation k a c).settings = s.settings := by
  unfold State.entryPresentation
  split
  · simp
  · split
    · simp
    · split <;> simp

@[simp] theorem State.exitRemoval_settings : (s.exitRemoval k a c).settings = s.settings := by
  unfold State.exitRemoval
  dsimp only
  split <;> simp

@[simp] theorem State.exitPresentation_settings : (s.exitPresentation k a c).settings = s.settings := by
  unfold State.exitPresentation
  dsimp only
  split <;> simp

@[simp] theorem State.present_settings : (s.present a c).settings = s.settings := by
  unfold State.present
  split
  · simp
  · simp
  · simp [State.unassignedPresentation]

@[simp] theorem State.actOnReply_settings (reply : ReplyKind) : (s.actOnReply a reply).settings = s.settings := by
  unfold State.actOnReply
  split
  · rfl
  · simp
  · unfold State.goodReply
    dsimp only
    split
    · unfold State.readCredential
      split <;> simp
    · simp

end

/-! ## Inputs (R145 to R151, R155) -/

section
variable (i : InputNo)

@[simp] theorem State.acceptLevel_settings (new : Level) : (s.acceptLevel i new).settings = s.settings := by
  have moved : (s.modifyInput i fun x => { x with level := new }).settings = s.settings :=
    State.modifyInput_settings rfl rfl
  unfold State.acceptLevel State.handOver
  dsimp only
  split
  · split <;> simp [moved]
  · split <;> simp [moved]

@[simp] theorem State.startSteady_settings : (s.startSteady i).settings = s.settings := by
  unfold State.startSteady
  split
  · exact State.modifyInput_settings rfl rfl
  · exact (State.acceptLevel_settings _ _ _).trans (State.modifyInput_settings rfl rfl)

@[simp] theorem State.contactMoved_settings : (s.contactMoved i).settings = s.settings := by
  unfold State.contactMoved
  split
  · exact State.modifyInput_settings rfl rfl
  · exact s.startSteady_settings i

@[simp] theorem State.acceptClass_settings (c : LineClass) : (s.acceptClass i c).settings = s.settings := by
  have accepted : (s.modifyInput i fun x => { x with accepted := some c, fault := c.fault }).settings = s.settings :=
    State.modifyInput_settings rfl rfl
  unfold State.acceptClass
  dsimp only
  split <;> simp [accepted]

theorem State.scanInput_settings (values : Vector (BitVec 10) 32) : (s.scanInput values i).settings = s.settings := by
  unfold State.scanInput
  split
  · rfl
  · dsimp only
    split
    · exact (State.acceptClass_settings _ _ _).trans (State.modifyInput_settings rfl rfl)
    · exact State.modifyInput_settings rfl rfl

theorem State.beginInput_settings : (s.beginInput i).settings = s.settings := by
  unfold State.beginInput
  split <;> simp

theorem State.resetInput_settings : (s.resetInput i).settings = s.settings :=
  (State.submitAll_settings _ _).trans (State.modifyInput_settings rfl rfl)

end

@[simp] theorem State.beginInputs_settings : s.beginInputs.settings = s.settings :=
  State.foldl_settings State.beginInput_settings allInputs s

@[simp] theorem State.resetInputs_settings : s.resetInputs.settings = s.settings :=
  State.foldl_settings State.resetInput_settings allInputs s

/-! ## STOP and resets (R172, R173) -/

theorem State.stopRunning_settings : s.stopRunning.settings = s.settings := by
  simp only [State.stopRunning, State.stopDoors_settings, State.dropAllReferences_settings,
    State.cancelAllPairings_settings, State.submit_settings]
  rfl

theorem State.resetReaders_settings : s.resetReaders.settings = s.settings :=
  State.submitAll_settings _ _

theorem State.holdPin_settings (held : Bool) : State.settings { s with pinHeld := held } = s.settings := rfl

theorem State.takeReset_settings (cause : ResetCause) (straps : Byte) :
    (s.takeReset cause straps).settings = s.settings := by
  have trunk : (s.takeReset cause straps).settings =
      (s.denyAllPairings.dropAllReferences.stopDoors.resetInputs.resetReaders.submit
        { kind := .controllerReset, detail := some cause.code }).settings := by
    simp only [State.takeReset, State.settings]
  simp [trunk, State.resetReaders_settings]

end

end Sys2Proof.Machine

/-! # Settings in RUNNING (O60) -/

namespace Sys2Proof.Machine

/-! ## Requests (R169) -/

section
variable {s : State} (payload : List Byte) (h : s.run = .running)
include h

/-- SET CONTROLLER is refused in RUNNING (R174). -/
theorem ownSetController_of_running : ownSetController payload s = (refuse .notStopped, s) := by
  simp [ownSetController, h]

/-- SET DOOR is refused in RUNNING (R121). -/
theorem ownSetDoor_of_running : ownSetDoor payload s = (refuse .notStopped, s) := if_pos h

/-- SET INPUT changes nothing in RUNNING (R146). -/
theorem ownSetInput_snd_of_running : (ownSetInput payload s).2 = s := by
  unfold ownSetInput
  split
  · rw [if_pos h]
  · rfl

/-- START changes nothing in RUNNING (R171). -/
theorem ownStart_of_running : ownStart payload s = (accept .empty, s) := by
  simp [ownStart, h]

end

section
variable (s : State) (payload : List Byte)

theorem ownStop_settings : (ownStop payload s).2.settings = s.settings := by
  unfold ownStop
  split
  · rfl
  · dsimp only
    exact s.stopRunning_settings

theorem ownSetTime_settings : (ownSetTime payload s).2.settings = s.settings := by
  unfold ownSetTime
  split
  · rfl
  · split <;> simp

theorem ownMinuteMark_settings : (ownMinuteMark payload s).2.settings = s.settings := by
  unfold ownMinuteMark
  split <;> simp

theorem ownOpenPermitWindow_settings : (ownOpenPermitWindow payload s).2.settings = s.settings := by
  unfold ownOpenPermitWindow
  split
  · dsimp only
    split <;> rfl
  · rfl

theorem State.offerPermit_settings (w : PermitWindow) (p : PermitRecord) :
    (s.offerPermit w p).2.settings = s.settings := by
  unfold State.offerPermit
  split <;> rfl

theorem ownPermitRecord_settings : (ownPermitRecord payload s).2.settings = s.settings := by
  unfold ownPermitRecord
  split
  · rfl
  · split
    · rfl
    · split
      · rfl
      · split
        · rfl
        · split
          · split
            · exact s.offerPermit_settings _ _
            · rfl
          · rfl

theorem ownSlotState_settings (target : SlotState) : (ownSlotState target payload s).2.settings = s.settings := by
  unfold ownSlotState
  dsimp only
  split
  · split <;> rfl
  · rfl

theorem ownWriteSchedule_settings : (ownWriteSchedule payload s).2.settings = s.settings := by
  unfold ownWriteSchedule
  split
  · dsimp only
    split
    · split <;> rfl
    · rfl
  · rfl

theorem ownAddHoliday_settings : (ownAddHoliday payload s).2.settings = s.settings := by
  unfold ownAddHoliday
  split
  · rfl
  · split
    · rfl
    · split <;> rfl

theorem ownRemoveHoliday_settings : (ownRemoveHoliday payload s).2.settings = s.settings := by
  unfold ownRemoveHoliday
  split
  · rfl
  · split <;> rfl

theorem ownRevoke_settings : (ownRevoke payload s).2.settings = s.settings := by
  unfold ownRevoke
  split
  · rfl
  · split <;> simp

theorem ownReinstate_settings : (ownReinstate payload s).2.settings = s.settings := by
  unfold ownReinstate
  split
  · rfl
  · split
    · rfl
    · split
      · rfl
      · split <;> rfl

theorem ownClearOccupant_settings : (ownClearOccupant payload s).2.settings = s.settings := by
  unfold ownClearOccupant
  split
  · rfl
  · split
    · rfl
    · split <;> simp

theorem ownClearRoom_settings : (ownClearRoom payload s).2.settings = s.settings := by
  unfold ownClearRoom
  split
  · split
    · exact (State.supervise_settings _ _).trans (State.foldl_settings (fun t e => t.clearEntry_settings _ e) _ s)
    · rfl
  · rfl

theorem ownSetDoorMode_settings : (ownSetDoorMode payload s).2.settings = s.settings := by
  unfold ownSetDoorMode
  split
  · split
    · exact State.foldl_settings (fun t k => t.setMode_settings k _) _ s
    · rfl
  · rfl

theorem ownReleaseDoor_settings : (ownReleaseDoor payload s).2.settings = s.settings := by
  unfold ownReleaseDoor
  split
  · split
    · rfl
    · split
      · rfl
      · split <;> simp
  · rfl

theorem ownSilence_settings : (ownSilence payload s).2.settings = s.settings := by
  unfold ownSilence
  split
  · split
    · rfl
    · split
      · rfl
      · exact State.modifyDoor_settings rfl
  · rfl

theorem ownCollect_settings : (ownCollect payload s).2.settings = s.settings := by
  unfold ownCollect
  split <;> rfl

end

section
variable {s : State}

/-- In RUNNING the owner of no kind of request changes a setting: those that set one refuse (R90, R121, R146, R174). -/
theorem ownerOf_settings (k : RequestKind) (payload : List Byte) (h : s.run = .running) :
    (ownerOf k payload s).2.settings = s.settings := by
  cases k with
  | readStatus | readTime | readHolidays | reset | clearHolidays | clearFilter => rfl
  | readSettings => exact congrArg State.settings (ownReadSettings_snd payload s)
  | readPermit => exact congrArg State.settings (ownReadPermit_snd payload s)
  | readSchedule => exact congrArg State.settings (ownReadSchedule_snd payload s)
  | checkCredential => exact congrArg State.settings (ownCheckCredential_snd payload s)
  | readRevocations => exact congrArg State.settings (ownReadRevocations_snd payload s)
  | readRoom => exact congrArg State.settings (ownReadRoom_snd payload s)
  | readDoor => exact congrArg State.settings (ownReadDoor_snd payload s)
  | readInputs => exact congrArg State.settings (ownReadInputs_snd payload s)
  | readReaders => exact congrArg State.settings (ownReadReaders_snd payload s)
  | setController => exact congrArg (fun x => x.2.settings) (ownSetController_of_running payload h)
  | setRoom => exact congrArg (fun x => x.2.settings) (ownSetRoom_of_running payload h)
  | setDoor => exact congrArg (fun x => x.2.settings) (ownSetDoor_of_running payload h)
  | setInput => exact congrArg State.settings (ownSetInput_snd_of_running payload h)
  | start => exact congrArg (fun x => x.2.settings) (ownStart_of_running payload h)
  | stop => exact ownStop_settings s payload
  | setTime => exact ownSetTime_settings s payload
  | minuteMark => exact ownMinuteMark_settings s payload
  | openPermitWindow => exact ownOpenPermitWindow_settings s payload
  | permitRecord => exact ownPermitRecord_settings s payload
  | suspendPermit => exact ownSlotState_settings s payload .suspended
  | resumePermit => exact ownSlotState_settings s payload .active
  | writeSchedule => exact ownWriteSchedule_settings s payload
  | addHoliday => exact ownAddHoliday_settings s payload
  | removeHoliday => exact ownRemoveHoliday_settings s payload
  | revoke => exact ownRevoke_settings s payload
  | reinstate => exact ownReinstate_settings s payload
  | clearOccupant => exact ownClearOccupant_settings s payload
  | clearRoom => exact ownClearRoom_settings s payload
  | setDoorMode => exact ownSetDoorMode_settings s payload
  | releaseDoor => exact ownReleaseDoor_settings s payload
  | silence => exact ownSilence_settings s payload
  | collect => exact ownCollect_settings s payload

theorem takeRequest_settings (k : RequestKind) (r : Req) (h : s.run = .running) :
    (takeRequest k r (ownerOf k) s).settings = s.settings := by
  unfold takeRequest
  dsimp only
  split
  · split
    · split
      · simp
      · rw [State.respond_settings, ownerOf_settings k _ ((s.takeFrame_run _).trans h), State.takeFrame_settings]
    · simp
  · rfl

theorem State.takeByKind_settings (code : Byte) (r : Req) (h : s.run = .running) :
    (s.takeByKind code r).settings = s.settings := by
  unfold State.takeByKind
  split
  · exact takeRequest_settings _ r h
  · unfold State.takeUnknown
    split <;> simp

theorem State.hearFrame_settings (frame : List Byte) (h : s.run = .running) :
    (s.hearFrame frame).settings = s.settings := by
  unfold State.hearFrame
  split
  · exact s.takeByKind_settings _ _ h
  · rfl

end

/-! ## Pins, timers and lines -/

/-- A command that leaves a state leaves one with the settings given. -/
def KeepsSettings (x : Settings) (o : Host.Outcome State Fault Refusal) : Prop := Leads (fun t => t.settings = x) o

theorem keepsSettings_next {x : Settings} {t : State} (h : t.settings = x) : KeepsSettings x (.next t) :=
  leads_next.mpr h

section
variable (s : State)

theorem execResetPin_settings (straps : Byte) : KeepsSettings s.settings (execResetPin straps s) := by
  unfold execResetPin
  split
  · exact keepsSettings_next rfl
  · exact keepsSettings_next ((State.holdPin_settings _ true).trans (s.takeReset_settings .pin straps))

theorem execResetPinRelease_settings : KeepsSettings s.settings (execResetPinRelease s) := by
  unfold execResetPinRelease
  split
  · refine keepsSettings_next ?_
    rw [State.beginInputs_settings, State.restartLoop_settings]
    rfl
  · exact keepsSettings_next rfl

theorem execSecondTick_settings : KeepsSettings s.settings (execSecondTick s) := by
  have ticked : (s.tickClock.reportUnset s.clock.state).settings = s.settings := State.reportUnset_settings _ _
  refine keepsSettings_next ?_
  rw [State.dateChange_settings]
  split <;> simp [ticked]

theorem execResponseSent_settings (straps : Byte) : KeepsSettings s.settings (execResponseSent straps s) := by
  unfold execResponseSent
  split
  · dsimp only
    split
    · refine keepsSettings_next ?_
      rw [State.beginInputs_settings, State.restartLoop_settings, State.takeReset_settings]
      rfl
    · exact keepsSettings_next rfl
  · exact keepsSettings_next rfl

theorem execResponseStart_settings : KeepsSettings s.settings (execResponseStart s) := by
  unfold execResponseStart
  split <;> exact keepsSettings_next rfl

theorem execSilenceTimeout_settings : KeepsSettings s.settings (execSilenceTimeout s) := by
  unfold execSilenceTimeout
  split
  · exact keepsSettings_next rfl
  · exact keepsSettings_next (State.submit_settings _ _)

theorem execReplyReceived_settings (bytes : List Byte) : KeepsSettings s.settings (execReplyReceived bytes s) := by
  unfold execReplyReceived
  split
  · exact keepsSettings_next (by simp)
  · exact keepsSettings_next rfl
  · exact keepsSettings_next rfl

theorem execReplyWindowExpiry_settings : KeepsSettings s.settings (execReplyWindowExpiry s) := by
  unfold execReplyWindowExpiry
  split
  · exact keepsSettings_next (by simp)
  · exact keepsSettings_next rfl
  · exact keepsSettings_next rfl

theorem execQuietIntervalExpiry_settings : KeepsSettings s.settings (execQuietIntervalExpiry s) := by
  unfold execQuietIntervalExpiry
  split
  · dsimp only
    split
    · exact keepsSettings_next (State.beginRound_settings _)
    · exact keepsSettings_next rfl
  · exact keepsSettings_next rfl
  · exact keepsSettings_next rfl

theorem execPairingDeadlineExpiry_settings (k : DoorNo) :
    KeepsSettings s.settings (execPairingDeadlineExpiry k s) := by
  unfold execPairingDeadlineExpiry
  split
  · exact keepsSettings_next rfl
  · exact keepsSettings_next (by simp)

theorem execReleaseTimerExpiry_settings (k : DoorNo) : KeepsSettings s.settings (execReleaseTimerExpiry k s) := by
  unfold execReleaseTimerExpiry
  split
  · exact keepsSettings_next rfl
  · exact keepsSettings_next ((State.modifyDoor_settings_of_claims (by simp)).trans (by simp))

theorem execEgressTimerExpiry_settings (k : DoorNo) : KeepsSettings s.settings (execEgressTimerExpiry k s) := by
  unfold execEgressTimerExpiry
  split
  · exact keepsSettings_next rfl
  · exact keepsSettings_next (State.modifyDoor_settings_of_claims (s := s.reach _) (by simp))

theorem execOpenAllowanceExpiry_settings (k : DoorNo) : KeepsSettings s.settings (execOpenAllowanceExpiry k s) := by
  unfold execOpenAllowanceExpiry
  split
  · exact keepsSettings_next rfl
  next deadline _ =>
    have expired : ((s.reach deadline).modifyDoor k DoorChannel.allowanceExpired).settings = s.settings :=
      State.modifyDoor_settings_of_claims (s := s.reach deadline) (by simp)
    dsimp only
    split
    · exact keepsSettings_next ((State.submit_settings _ _).trans expired)
    · exact keepsSettings_next expired

theorem execContactChange_settings (i : InputNo) (contact : Contact) :
    KeepsSettings s.settings (execContactChange i contact s) := by
  have moved : (s.modifyInput i fun x => { x with contact := contact }).settings = s.settings :=
    State.modifyInput_settings rfl rfl
  unfold execContactChange
  split
  · exact keepsSettings_next rfl
  · dsimp only
    split
    · exact keepsSettings_next ((State.contactMoved_settings _ _).trans moved)
    · exact keepsSettings_next moved

theorem execSteadyTimerExpiry_settings (i : InputNo) : KeepsSettings s.settings (execSteadyTimerExpiry i s) := by
  unfold execSteadyTimerExpiry
  split
  · exact keepsSettings_next rfl
  next deadline _ =>
    exact keepsSettings_next ((State.acceptLevel_settings _ _ _).trans
      (State.modifyInput_settings (s := s.reach deadline) rfl rfl))

theorem execScannerPass_settings (values : Vector (BitVec 10) 32) :
    KeepsSettings s.settings (execScannerPass values s) := by
  unfold execScannerPass
  split
  · exact keepsSettings_next rfl
  · exact keepsSettings_next (State.foldl_settings (fun t i => t.scanInput_settings i values) allInputs _)

variable {s}

/-- In RUNNING every command but POWER_ON keeps the settings. -/
theorem exec_settings {c : Instr} (hrun : s.run = .running) (hc : ∀ straps closed, c ≠ .powerOn straps closed) :
    KeepsSettings s.settings (exec c s) := by
  rcases eq_command_or_request_eq_none c with ⟨k, r, rfl⟩ | hnone
  · rw [exec_request]
    exact keepsSettings_next (takeRequest_settings k r hrun)
  · cases c with
    | powerOn straps closed => exact absurd rfl (hc straps closed)
    | resetPin straps => exact execResetPin_settings s straps
    | resetPinRelease => exact execResetPinRelease_settings s
    | secondTick => exact execSecondTick_settings s
    | frameDiscarded frame => exact keepsSettings_next (s.hearFrame_settings frame hrun)
    | unknownKind code r => exact keepsSettings_next (s.takeByKind_settings code r hrun)
    | responseSent straps => exact execResponseSent_settings s straps
    | silenceTimeout => exact execSilenceTimeout_settings s
    | replyReceived bytes => exact execReplyReceived_settings s bytes
    | replyWindowExpiry => exact execReplyWindowExpiry_settings s
    | quietIntervalExpiry => exact execQuietIntervalExpiry_settings s
    | pairingDeadlineExpiry k => exact execPairingDeadlineExpiry_settings s k
    | releaseTimerExpiry k => exact execReleaseTimerExpiry_settings s k
    | egressTimerExpiry k => exact execEgressTimerExpiry_settings s k
    | openAllowanceExpiry k => exact execOpenAllowanceExpiry_settings s k
    | contactChange i contact => exact execContactChange_settings s i contact
    | steadyTimerExpiry i => exact execSteadyTimerExpiry_settings s i
    | scannerPass values => exact execScannerPass_settings s values
    | responseStart => exact execResponseStart_settings s
    | _ => cases hnone

end

/-- Settles O60: the requests that set anything are refused in RUNNING, and no other command writes a setting. -/
theorem runningKeepsTheSettings : Obligations.RunningKeepsTheSettings := by
  intro c s t hrun hc hexec
  exact exec_settings hrun hc t hexec

end Sys2Proof.Machine

/-! # Clearing an occupant (O32) -/

namespace Sys2Proof.Machine

/-! ## The payload (R106, R177) -/

theorem credentialOf_bytesOfCredential (c : Credential) : credentialOf (bytesOfCredential c) = some c :=
  congrArg some (credentialOfBytes_extractLsb' c)

section
variable {s : State} {c : Credential}

theorem ownClearOccupant_of_zero : ownClearOccupant (bytesOfCredential 0) s = (refuse .badValue, s) := by
  simp [ownClearOccupant, credentialOf_bytesOfCredential]

theorem ownClearOccupant_of_outside (hc : c ≠ 0) (h : s.findEntry c = none) :
    ownClearOccupant (bytesOfCredential c) s = (refuse .notFound, s) := by
  simp only [ownClearOccupant, credentialOf_bytesOfCredential, if_neg hc, h]

theorem ownClearOccupant_of_inside {q : RoomNo} {e : Entry} (hc : c ≠ 0) (h : s.findEntry c = some (q, e)) :
    ownClearOccupant (bytesOfCredential c) s =
      (accept (.occupantCleared q e.state), (s.clearEntry q e).supervise q) := by
  simp only [ownClearOccupant, credentialOf_bytesOfCredential, if_neg hc, h]

/-! ## States that differ in rooms, doors and records -/

/-- A state that differs in rooms, doors and records alone, and whose records are `reports` after those of `s`. -/
theorem State.eq_submitAll_of_desk_eq {s t : State} {reports : List Report}
    (hform : ∃ rooms doors q n l, t =
      { s with rooms := rooms, doors := doors, queue := q, nextSequence := n, lost := l })
    (hdesk : t.desk = s.desk.submitAll reports) :
    t = { s.submitAll reports with rooms := t.rooms, doors := t.doors } := by
  obtain ⟨rooms, doors, q, n, l, rfl⟩ := hform
  obtain ⟨q', n', l', hsubmit⟩ := State.submitAll_form reports s
  rw [← State.desk_submitAll, hsubmit] at hdesk
  obtain ⟨hq : q = q', hn : n = n', hl : l = l', -⟩ := Desk.mk.inj hdesk
  rw [hsubmit, hq, hn, hl]

/-- Where a credential has gone from every room and no other entry has, the others are found as before. -/
theorem State.findEntry_of_gone {t : State}
    (h : ∀ p, (t.room p).entries = (s.room p).entries.filter fun y => y.credential ≠ c) (x : Credential) :
    t.findEntry x = if x = c then none else s.findEntry x := by
  split
  next hx =>
    refine State.findEntry_eq_none_iff.mpr fun p y hy => ?_
    rw [h] at hy
    simpa [hx] using (List.mem_filter.mp hy).2
  next hx =>
    have hroom (p : RoomNo) : (t.room p).entryOf x = (s.room p).entryOf x := by
      rw [Room.entryOf, Room.entryOf, h, List.find?_filter]
      congr 1
      funext y
      by_cases hy : y.credential = x <;> simp [hy, hx]
    simp only [State.findEntry, hroom]

/-! ## The entry that is cleared (R96, R106) -/

section
variable (s : State) (q : RoomNo) (e : Entry)

/-- Clearing an entry and the check after it: rooms, doors and records, and nothing else. -/
theorem State.clearEntry_supervise_form : ∃ rooms doors k n l, (s.clearEntry q e).supervise q =
    { s with rooms := rooms, doors := doors, queue := k, nextSequence := n, lost := l } := by
  obtain ⟨_, _, _, _, _, hcleared⟩ := State.foldl_clearEntry_form q [e] s
  obtain ⟨_, _, _, _, hchecked⟩ := State.superviseAll_form [q] (s.clearEntry q e)
  change s.clearEntry q e = _ at hcleared
  rw [State.supervise_eq_superviseAll, hchecked, hcleared]
  exact ⟨_, _, _, _, _, rfl⟩

theorem State.room_clearEntry (p : RoomNo) : (s.clearEntry q e).room p = (s.dropEntry q e).room p :=
  State.submit_room _ _ p

/-- The records of a clearing: OCCUPANT_CLEARED, and what the check after it gives (R86, R106). -/
theorem State.desk_clearEntry_supervise : ((s.clearEntry q e).supervise q).desk =
    s.desk.submitAll (clearedReport q e :: s.checkReport ((s.clearEntry q e).supervise q) q) := by
  have hsupervision : ((s.clearEntry q e).room q).supervision = (s.room q).supervision := by
    rw [State.room_clearEntry, State.room_dropEntry, if_pos rfl]
  rw [State.desk_supervise hsupervision, State.clearEntry, State.desk_submit, State.desk_dropEntry]
  rfl

theorem State.door_clearEntry_supervise (k : DoorNo) :
    ((s.clearEntry q e).supervise q).door k = (s.dropEntry q e).door k := by
  rw [State.door_congr (State.supervise_doors _ _)]
  exact State.submit_door _ _ k

end

end

/-- Settles O32: the entry that is found is dropped with its record, and its room is checked. -/
theorem occupantsAreCleared : Obligations.OccupantsAreCleared := by
  intro r s c haddressed hr
  have answer {reply : Reply} {t : State} (h : ownClearOccupant (bytesOfCredential c) s.heard = (reply, t)) :
      exec (.clearOccupant r) s = .next (t.owing 0x42 reply.result reply.data) :=
    exec_addressed (k := .clearOccupant) haddressed nofun (by rw [hr]; rfl) (by rw [hr]; exact h)
  refine ⟨fun hc => ?_, fun hc hnone => answer (ownClearOccupant_of_outside hc (by simpa using hnone)),
    fun q e hc hfound => ?_⟩
  · subst hc
    exact answer ownClearOccupant_of_zero
  obtain ⟨he, rfl⟩ := State.of_findEntry hfound
  refine ⟨_, answer (ownClearOccupant_of_inside hc (by simpa using hfound)), ?_, fun p => ?_,
    fun p => ⟨?_, fun hp => ?_⟩, State.supervision_supervise _ q, fun k => ?_, fun hwf => ?_⟩
  · have hcheck : s.heard.checkReport ((s.heard.clearEntry q e).supervise q) q =
        s.checkReport ((s.heard.clearEntry q e).supervise q) q :=
      State.checkReport_congr (by rw [State.heard_room]) rfl rfl
    have hdesk := State.desk_clearEntry_supervise s.heard q e
    rw [hcheck] at hdesk
    exact State.eq_submitAll_of_desk_eq (State.clearEntry_supervise_form _ q e) hdesk
  · rw [State.entries_supervise, State.room_clearEntry, State.room_dropEntry, State.heard_room]
    by_cases hp : p = q
    · simp [hp]
    · simp [hp, Ne.symm hp]
  · rw [State.settings_supervise, State.room_clearEntry, State.room_dropEntry, State.heard_room, State.heard_room]
    split
    next hp => rw [← hp]
    next => rfl
  · rw [State.room_supervise, if_neg hp.symm, State.room_clearEntry, State.room_dropEntry, if_neg hp.symm,
      State.heard_room]
  · rw [State.door_clearEntry_supervise, State.door_dropEntry, State.heard_door]
    split <;> rfl
  · have hgone (p : RoomNo) : (((s.heard.clearEntry q e).supervise q).room p).entries =
        (s.room p).entries.filter fun y => y.credential ≠ e.credential := by
      have hheard : s.heard.occupancyWf := (State.occupancyWf_congr s.heard_rooms).mpr hwf
      rw [State.entries_supervise, State.room_clearEntry, State.entries_dropEntry hheard (by simpa using he),
        State.heard_room]
    exact ⟨by rw [State.findEntry_of_gone hgone, if_pos rfl], fun x hx => by
      rw [State.findEntry_of_gone hgone, if_neg hx]⟩

end Sys2Proof.Machine
